-- ==== Sys2Proof/Config.lean ====
section
/-! DEFINITION. What an implementation fixes: the widths of rule R4, each a named argument of the machine with the
spec's default, and the free values: what the output ports read while an evaluation faults, which the spec leaves
unspecified (R174). -/

namespace Sys2Proof.Config

/-- The width parameters of R4, each with its default. The inputs, the outputs and the state of the machine take them
as an argument; the functions the block computes are over the natural numbers and take none (R4, R18). -/
structure Widths where
  /-- W_SEC: width of the `sec` port. -/
  wSec : Nat := 6
  /-- W_HOUR: width of the `hour` port. -/
  wHour : Nat := 5
  /-- W_MIN: width of the `minute` port. -/
  wMin : Nat := 6
  /-- W_DOY: width of the `doy` port. -/
  wDoy : Nat := 9
  /-- W_YEAR: width of the `year` port. -/
  wYear : Nat := 7
  /-- W_WDAY: width of the `wday` port. -/
  wWday : Nat := 3
  /-- NW: width of the operand bus of `bcd_digit` and `parity`. -/
  nw : Nat := 10
  /-- W_BIT: width of a BCD bit-index, the payload of a descriptor. -/
  wBit : Nat := 4
  /-- W_KIND: width of the FrameSlot kind tag. -/
  wKind : Nat := 4
  /-- W_VAL: width of the SignalValue code. -/
  wVal : Nat := 2
  /-- W_DUR: width of the duration output. -/
  wDur : Nat := 10
  /-- W_FAULT: width of the fault code. -/
  wFault : Nat := 2
  deriving DecidableEq, Repr

/-- The default of every width (R4). -/
abbrev defaults : Widths := {}

/-- Each width holds the values R4 calls legal for it, and the operand bus is no narrower than a port it carries. -/
abbrev Widths.Legal (c : Widths) : Prop :=
  6 ≤ c.wSec ∧ 5 ≤ c.wHour ∧ 6 ≤ c.wMin ∧ 9 ≤ c.wDoy ∧ 7 ≤ c.wYear ∧ 3 ≤ c.wWday ∧ 10 ≤ c.nw ∧
  (c.wHour ≤ c.nw ∧ c.wMin ≤ c.nw ∧ c.wDoy ≤ c.nw ∧ c.wYear ≤ c.nw ∧ c.wWday ≤ c.nw) ∧
  4 ≤ c.wBit ∧ 4 ≤ c.wKind ∧ 2 ≤ c.wVal ∧ 10 ≤ c.wDur ∧ 2 ≤ c.wFault

/-- Free value: what a `slot_kind` port of width `w` reads during the n-th faulted evaluation (R21, R174; log 4). -/
opaque freeSlotKind (w : Nat) : Nat → BitVec w
/-- Free value: what a `slot_idx` port of width `w` reads during the n-th faulted evaluation (R21, R174; log 4). -/
opaque freeSlotIdx (w : Nat) : Nat → BitVec w
/-- Free value: what a `value` port of width `w` reads during the n-th faulted evaluation (R21, R174; log 4). -/
opaque freeValue (w : Nat) : Nat → BitVec w
/-- Free value: what a `dur_ms` port of width `w` reads during the n-th faulted evaluation (R21, R174; log 4). -/
opaque freeDurMs (w : Nat) : Nat → BitVec w

end Sys2Proof.Config
end

