-- ==== Sys2Proof/Word.lean ====
section
/-! DEFINITION. The word types of rule R50, named after what they carry. Every bus is unsigned and its bit 0 is the
least significant one (R5). The words of the opcode table have the default widths (R50, R51). -/

namespace Sys2Proof

/-- A byte of a laid-out table word. -/
abbrev Byte := BitVec 8
/-- Format S: the 6-bit second index on `sec` (R50). -/
abbrev Second := BitVec Config.defaults.wSec
/-- The `kind` nibble of a descriptor (R51). -/
abbrev Kind := BitVec Config.defaults.wKind
/-- The `idx` nibble of a descriptor (R51). -/
abbrev Idx := BitVec Config.defaults.wBit
/-- A descriptor at the widths `c`: kind in the high field and idx in the low one (R51). -/
abbrev DescAt (c : Config.Widths) := BitVec (c.wKind + c.wBit)
/-- Format D: the 8-bit descriptor of the opcode table, kind and idx a nibble each (R50, R51). -/
abbrev Desc := DescAt Config.defaults

end Sys2Proof
end

