-- ==== Sys2Proof/Syntax.lean ====
section
/-! DEFINITION. The instructions: one constructor for each of the 74 rows of the opcode table, the abstract FrameSlot
of rule R52, and the two kinds of selecting word (formats S and D of rule R50). -/

namespace Sys2Proof

/-- The 12 FrameSlot variants in the order of their kind codes, each with its payload nibble (R52). A payload outside
the variant's range can be written here: it can be on the wire (R61). -/
inductive FrameSlot where
  | marker
  | position (idx : Idx)
  | hourDigit (k : Idx)
  | minuteDigit (k : Idx)
  | dayDigit (k : Idx)
  | yearDigit (k : Idx)
  | weekdayDigit (k : Idx)
  | leapSecondFlag (idx : Idx)
  | parityFlag (idx : Idx)
  | reserved (idx : Idx)
  | stopAnnounce (idx : Idx)
  | fixedZero
  deriving DecidableEq, Repr

/-- The word that selects what the block does: a second index at the top level (format S), or a descriptor presented
at the multiplexer's own interface (format D) (R22, R50). -/
inductive SelectWord where
  | second (sec : Second)
  | descriptor (d : Desc)
  deriving DecidableEq, Repr

/-- The two formats of the opcode table. -/
inductive Format where
  | S
  | D
  deriving DecidableEq, Repr

/-- One constructor per row of the opcode table. The rows of format S name the slot a second index selects (R101,
R103); the rows of format D are the operations of the multiplexer on a descriptor, for every payload (R130, R61). -/
inductive Instr where
  /-- second 0: Marker (R132). -/
  | m
  /-- second 1: MinuteDigit(6) (R135). -/
  | min40
  /-- second 2: MinuteDigit(5) (R135). -/
  | min20
  /-- second 3: MinuteDigit(4) (R135). -/
  | min10
  /-- second 4: FixedZero (R145). -/
  | z4
  /-- second 5: MinuteDigit(3) (R135). -/
  | min8
  /-- second 6: MinuteDigit(2) (R135). -/
  | min4
  /-- second 7: MinuteDigit(1) (R135). -/
  | min2
  /-- second 8: MinuteDigit(0) (R135). -/
  | min1
  /-- second 9: Position(1) (R133). -/
  | p1
  /-- second 10: FixedZero (R145). -/
  | z10
  /-- second 11: FixedZero (R145). -/
  | z11
  /-- second 12: HourDigit(5) (R134). -/
  | hr20
  /-- second 13: HourDigit(4) (R134). -/
  | hr10
  /-- second 14: FixedZero (R145). -/
  | z14
  /-- second 15: HourDigit(3) (R134). -/
  | hr8
  /-- second 16: HourDigit(2) (R134). -/
  | hr4
  /-- second 17: HourDigit(1) (R134). -/
  | hr2
  /-- second 18: HourDigit(0) (R134). -/
  | hr1
  /-- second 19: Position(2) (R133). -/
  | p2
  /-- second 20: FixedZero (R145). -/
  | z20
  /-- second 21: FixedZero (R145). -/
  | z21
  /-- second 22: DayDigit(9) (R136). -/
  | doy200
  /-- second 23: DayDigit(8) (R136). -/
  | doy100
  /-- second 24: FixedZero (R145). -/
  | z24
  /-- second 25: DayDigit(7) (R136). -/
  | doy80
  /-- second 26: DayDigit(6) (R136). -/
  | doy40
  /-- second 27: DayDigit(5) (R136). -/
  | doy20
  /-- second 28: DayDigit(4) (R136). -/
  | doy10
  /-- second 29: Position(3) (R133). -/
  | p3
  /-- second 30: DayDigit(3) (R136). -/
  | doy8
  /-- second 31: DayDigit(2) (R136). -/
  | doy4
  /-- second 32: DayDigit(1) (R136). -/
  | doy2
  /-- second 33: DayDigit(0) (R136). -/
  | doy1
  /-- second 34: FixedZero (R145). -/
  | z34
  /-- second 35: FixedZero (R145). -/
  | z35
  /-- second 36: ParityFlag(1) (R139). -/
  | pa1
  /-- second 37: ParityFlag(2) (R139). -/
  | pa2
  /-- second 38: Reserved(1) (R140). -/
  | su1
  /-- second 39: Position(4) (R133). -/
  | p4
  /-- second 40: Reserved(2) (R140). -/
  | su2
  /-- second 41: YearDigit(7) (R137). -/
  | yr80
  /-- second 42: YearDigit(6) (R137). -/
  | yr40
  /-- second 43: YearDigit(5) (R137). -/
  | yr20
  /-- second 44: YearDigit(4) (R137). -/
  | yr10
  /-- second 45: YearDigit(3) (R137). -/
  | yr8
  /-- second 46: YearDigit(2) (R137). -/
  | yr4
  /-- second 47: YearDigit(1) (R137). -/
  | yr2
  /-- second 48: YearDigit(0) (R137). -/
  | yr1
  /-- second 49: Position(5) (R133). -/
  | p5
  /-- second 50: WeekdayDigit(2) (R138). -/
  | wd4
  /-- second 51: WeekdayDigit(1) (R138). -/
  | wd2
  /-- second 52: WeekdayDigit(0) (R138). -/
  | wd1
  /-- second 53: LeapSecondFlag(1) (R142). -/
  | ls1
  /-- second 54: LeapSecondFlag(2) (R142). -/
  | ls2
  /-- second 55: FixedZero (R145). -/
  | z55
  /-- second 56: FixedZero (R145). -/
  | z56
  /-- second 57: FixedZero (R145). -/
  | z57
  /-- second 58: FixedZero (R145). -/
  | z58
  /-- second 59: Position(0) (R133). -/
  | p0
  /-- second 60 to 63: FixedZero (R103, R145). -/
  | zDefault (ss : BitVec 2)
  /-- kind 0 (R132). -/
  | marker (idx : Idx)
  /-- kind 1 (R133). -/
  | position (idx : Idx)
  /-- kind 2 (R134). -/
  | hourDigit (idx : Idx)
  /-- kind 3 (R135). -/
  | minuteDigit (idx : Idx)
  /-- kind 4 (R136). -/
  | dayDigit (idx : Idx)
  /-- kind 5 (R137). -/
  | yearDigit (idx : Idx)
  /-- kind 6 (R138). -/
  | weekdayDigit (idx : Idx)
  /-- kind 7 (R142). -/
  | leapSecondFlag (idx : Idx)
  /-- kind 8 (R139). -/
  | parityFlag (idx : Idx)
  /-- kind 9 (R140). -/
  | reserved (idx : Idx)
  /-- kind 10 (R141). -/
  | stopAnnounce (idx : Idx)
  /-- kind 11 (R145). -/
  | fixedZero (idx : Idx)
  /-- kind 12 to 15 (R143). -/
  | reservedKind (kk : BitVec 2) (idx : Idx)
  deriving DecidableEq, Repr

end Sys2Proof
end

