-- ==== Sys2Proof/WellFormed.lean ====
section
/-! DEFINITION. Well-formedness: the descriptor predicate of rule R53 and the legal second indices of rules R59 and
R214. It is a premise for claims about correct operation and no condition for running: an ill-formed instruction has
the meaning rules R59, R60 and R61 give it. -/

namespace Sys2Proof

/-- Is `idx` in the payload range the source gives the variant `kind` (R53)? -/
def wfPayload (kind idx : Nat) : Bool :=
  match kind with
  | 0 => idx == 0
  | 1 => idx ≤ 5
  | 2 => idx ≤ 5
  | 3 => idx ≤ 6
  | 4 => idx ≤ 9
  | 5 => idx ≤ 7
  | 6 => idx ≤ 2
  | 7 => 1 ≤ idx && idx ≤ 2
  | 8 => 1 ≤ idx && idx ≤ 2
  | 9 => 1 ≤ idx && idx ≤ 2
  | 10 => 1 ≤ idx && idx ≤ 6
  | 11 => idx == 0
  | _ => false

/-- `wf_desc` (R53): bits 7 to 4 are the kind and bits 3 to 0 the idx (R51). -/
def wfDesc (d : Desc) : Bool := wfPayload (d.toNat / 16) (d.toNat % 16)

/-- A legal second index is 0 to 59 (R59, R214). -/
def wfSecond (sec : Second) : Bool := sec.toNat ≤ 59

/-- A well-formed instruction: a row of format S for a legal second index (R214), or a row of format D whose payload is
in its variant's range (R53). -/
def Instr.wellFormed : Instr → Bool
  | .m | .min40 | .min20 | .min10 | .z4 | .min8 | .min4 | .min2
  | .min1 | .p1 | .z10 | .z11 | .hr20 | .hr10 | .z14 | .hr8
  | .hr4 | .hr2 | .hr1 | .p2 | .z20 | .z21 | .doy200 | .doy100
  | .z24 | .doy80 | .doy40 | .doy20 | .doy10 | .p3 | .doy8 | .doy4
  | .doy2 | .doy1 | .z34 | .z35 | .pa1 | .pa2 | .su1 | .p4
  | .su2 | .yr80 | .yr40 | .yr20 | .yr10 | .yr8 | .yr4 | .yr2
  | .yr1 | .p5 | .wd4 | .wd2 | .wd1 | .ls1 | .ls2 | .z55
  | .z56 | .z57 | .z58 | .p0 => true
  | .zDefault _ => false
  | .marker idx => wfPayload 0 idx.toNat
  | .position idx => wfPayload 1 idx.toNat
  | .hourDigit idx => wfPayload 2 idx.toNat
  | .minuteDigit idx => wfPayload 3 idx.toNat
  | .dayDigit idx => wfPayload 4 idx.toNat
  | .yearDigit idx => wfPayload 5 idx.toNat
  | .weekdayDigit idx => wfPayload 6 idx.toNat
  | .leapSecondFlag idx => wfPayload 7 idx.toNat
  | .parityFlag idx => wfPayload 8 idx.toNat
  | .reserved idx => wfPayload 9 idx.toNat
  | .stopAnnounce idx => wfPayload 10 idx.toNat
  | .fixedZero idx => wfPayload 11 idx.toNat
  | .reservedKind _ _ => false

end Sys2Proof
end

