-- ==== Sys2Proof/Decode.lean ====
section
/-! DEFINITION. The decoder and, after it, the encoder. `decodeWord` is total: every 6-bit second index and every
8-bit descriptor has exactly one meaning (R64). `decode` reads laid-out bytes and rejects by name what no port can
carry. -/

namespace Sys2Proof

/-! ## Descriptors -/

/-- The kind field of a descriptor at the widths `c` (R51). -/
def kindAt (c : Config.Widths) (d : DescAt c) : BitVec c.wKind := BitVec.extractLsb' c.wBit c.wKind d

/-- The idx field of a descriptor at the widths `c` (R51). -/
def idxAt (c : Config.Widths) (d : DescAt c) : BitVec c.wBit := BitVec.extractLsb' 0 c.wBit d

/-- The kind nibble, bits 7 to 4 of a descriptor (R51). -/
def descKind (d : Desc) : Kind := kindAt Config.defaults d

/-- The idx nibble, bits 3 to 0 of a descriptor (R51). -/
def descIdx (d : Desc) : Idx := idxAt Config.defaults d

/-- The descriptor of a kind and an idx (R51). -/
def mkDesc (kind : Kind) (idx : Idx) : Desc := kind ++ idx

/-- The number of a FrameSlot's variant (R52). -/
def FrameSlot.kindCode : FrameSlot → Nat
  | .marker => 0
  | .position _ => 1
  | .hourDigit _ => 2
  | .minuteDigit _ => 3
  | .dayDigit _ => 4
  | .yearDigit _ => 5
  | .weekdayDigit _ => 6
  | .leapSecondFlag _ => 7
  | .parityFlag _ => 8
  | .reserved _ => 9
  | .stopAnnounce _ => 10
  | .fixedZero => 11

/-- The number of a FrameSlot's payload (R53). Marker and FixedZero carry 0 (R54). -/
def FrameSlot.payload : FrameSlot → Nat
  | .marker | .fixedZero => 0
  | .position k | .hourDigit k | .minuteDigit k | .dayDigit k | .yearDigit k | .weekdayDigit k
  | .leapSecondFlag k | .parityFlag k | .reserved k | .stopAnnounce k => k.toNat

/-- The wire form of a FrameSlot at the widths `c` (R51, R52). -/
def FrameSlot.descriptorAt (c : Config.Widths) (slot : FrameSlot) : DescAt c :=
  BitVec.ofNat c.wKind slot.kindCode ++ BitVec.ofNat c.wBit slot.payload

/-- The wire form of a FrameSlot in the opcode table's format D (R51, R52). -/
def FrameSlot.descriptor (slot : FrameSlot) : Desc := slot.descriptorAt Config.defaults

/-! ## Format S -/

/-- The format S rows of seconds 0 to 9, in order. -/
def secondRows0 : List Instr :=
  [.m, .min40, .min20, .min10, .z4, .min8, .min4, .min2, .min1, .p1]

/-- The format S rows of seconds 10 to 19, in order. -/
def secondRows1 : List Instr :=
  [.z10, .z11, .hr20, .hr10, .z14, .hr8, .hr4, .hr2, .hr1, .p2]

/-- The format S rows of seconds 20 to 29, in order. -/
def secondRows2 : List Instr :=
  [.z20, .z21, .doy200, .doy100, .z24, .doy80, .doy40, .doy20, .doy10, .p3]

/-- The format S rows of seconds 30 to 39, in order. -/
def secondRows3 : List Instr :=
  [.doy8, .doy4, .doy2, .doy1, .z34, .z35, .pa1, .pa2, .su1, .p4]

/-- The format S rows of seconds 40 to 49, in order. -/
def secondRows4 : List Instr :=
  [.su2, .yr80, .yr40, .yr20, .yr10, .yr8, .yr4, .yr2, .yr1, .p5]

/-- The format S rows of seconds 50 to 59, in order. -/
def secondRows5 : List Instr :=
  [.wd4, .wd2, .wd1, .ls1, .ls2, .z55, .z56, .z57, .z58, .p0]

/-- The format S rows of seconds 0 to 59, in order. -/
def secondRows : List Instr :=
  secondRows0 ++ secondRows1 ++ secondRows2 ++ secondRows3 ++ secondRows4 ++ secondRows5

/-- Format S: the row a second index selects; 60 to 63, binary 1111ss, are the default row (R55, R59). -/
def decodeSecond (sec : Second) : Instr :=
  (secondRows[sec.toNat]?).getD (.zDefault (BitVec.extractLsb' 0 2 sec))

/-! ## Format D -/

/-- Format D: the operation a descriptor selects, by its kind nibble; kinds 12 to 15, binary 11kk, are the reserved
row (R52, R60). -/
def decodeDescriptor (d : Desc) : Instr :=
  match (descKind d).toNat with
  | 0 => .marker (descIdx d)
  | 1 => .position (descIdx d)
  | 2 => .hourDigit (descIdx d)
  | 3 => .minuteDigit (descIdx d)
  | 4 => .dayDigit (descIdx d)
  | 5 => .yearDigit (descIdx d)
  | 6 => .weekdayDigit (descIdx d)
  | 7 => .leapSecondFlag (descIdx d)
  | 8 => .parityFlag (descIdx d)
  | 9 => .reserved (descIdx d)
  | 10 => .stopAnnounce (descIdx d)
  | 11 => .fixedZero (descIdx d)
  | _ => .reservedKind (BitVec.extractLsb' 4 2 d) (descIdx d)

/-- The instruction a selecting word stands for (R64). -/
def decodeWord : SelectWord → Instr
  | .second sec => decodeSecond sec
  | .descriptor d => decodeDescriptor d

/-! ## Bytes -/

/-- Why a text of bytes is no instruction. -/
inductive DecodeError where
  /-- There is no byte. -/
  | noWord
  /-- Format S: bit 7 or bit 6 is set, and the `sec` port has six bits (R50). -/
  | tooWideForSec
  deriving DecidableEq, Repr

/-- The selecting word one byte holds in a format: format S in bits 5 to 0 with 0 above, format D in all eight. -/
def wordOfByte : Format → Byte → Except DecodeError SelectWord
  | .S, b => if b.toNat < 2 ^ Config.defaults.wSec then .ok (.second (BitVec.extractLsb' 0 Config.defaults.wSec b)) else .error .tooWideForSec
  | .D, b => .ok (.descriptor b)

/-- Decode the first instruction of a text of bytes in a format, and return the rest. -/
def decode (fmt : Format) : List Byte → Except DecodeError (Instr × List Byte)
  | [] => .error .noWord
  | b :: rest =>
    match wordOfByte fmt b with
    | .ok w => .ok (decodeWord w, rest)
    | .error e => .error e

/-! ## The encoder -/

/-- The selecting word of an instruction, from the table's `encoding` column. -/
def encodeWord : Instr → SelectWord
  | .m => .second 0b000000
  | .min40 => .second 0b000001
  | .min20 => .second 0b000010
  | .min10 => .second 0b000011
  | .z4 => .second 0b000100
  | .min8 => .second 0b000101
  | .min4 => .second 0b000110
  | .min2 => .second 0b000111
  | .min1 => .second 0b001000
  | .p1 => .second 0b001001
  | .z10 => .second 0b001010
  | .z11 => .second 0b001011
  | .hr20 => .second 0b001100
  | .hr10 => .second 0b001101
  | .z14 => .second 0b001110
  | .hr8 => .second 0b001111
  | .hr4 => .second 0b010000
  | .hr2 => .second 0b010001
  | .hr1 => .second 0b010010
  | .p2 => .second 0b010011
  | .z20 => .second 0b010100
  | .z21 => .second 0b010101
  | .doy200 => .second 0b010110
  | .doy100 => .second 0b010111
  | .z24 => .second 0b011000
  | .doy80 => .second 0b011001
  | .doy40 => .second 0b011010
  | .doy20 => .second 0b011011
  | .doy10 => .second 0b011100
  | .p3 => .second 0b011101
  | .doy8 => .second 0b011110
  | .doy4 => .second 0b011111
  | .doy2 => .second 0b100000
  | .doy1 => .second 0b100001
  | .z34 => .second 0b100010
  | .z35 => .second 0b100011
  | .pa1 => .second 0b100100
  | .pa2 => .second 0b100101
  | .su1 => .second 0b100110
  | .p4 => .second 0b100111
  | .su2 => .second 0b101000
  | .yr80 => .second 0b101001
  | .yr40 => .second 0b101010
  | .yr20 => .second 0b101011
  | .yr10 => .second 0b101100
  | .yr8 => .second 0b101101
  | .yr4 => .second 0b101110
  | .yr2 => .second 0b101111
  | .yr1 => .second 0b110000
  | .p5 => .second 0b110001
  | .wd4 => .second 0b110010
  | .wd2 => .second 0b110011
  | .wd1 => .second 0b110100
  | .ls1 => .second 0b110101
  | .ls2 => .second 0b110110
  | .z55 => .second 0b110111
  | .z56 => .second 0b111000
  | .z57 => .second 0b111001
  | .z58 => .second 0b111010
  | .p0 => .second 0b111011
  | .zDefault ss => .second (0b1111#4 ++ ss)
  | .marker idx => .descriptor (0b0000#4 ++ idx)
  | .position idx => .descriptor (0b0001#4 ++ idx)
  | .hourDigit idx => .descriptor (0b0010#4 ++ idx)
  | .minuteDigit idx => .descriptor (0b0011#4 ++ idx)
  | .dayDigit idx => .descriptor (0b0100#4 ++ idx)
  | .yearDigit idx => .descriptor (0b0101#4 ++ idx)
  | .weekdayDigit idx => .descriptor (0b0110#4 ++ idx)
  | .leapSecondFlag idx => .descriptor (0b0111#4 ++ idx)
  | .parityFlag idx => .descriptor (0b1000#4 ++ idx)
  | .reserved idx => .descriptor (0b1001#4 ++ idx)
  | .stopAnnounce idx => .descriptor (0b1010#4 ++ idx)
  | .fixedZero idx => .descriptor (0b1011#4 ++ idx)
  | .reservedKind kk idx => .descriptor (0b11#2 ++ kk ++ idx)

/-- The format of an instruction's row. -/
def Instr.format (i : Instr) : Format :=
  match encodeWord i with
  | .second _ => .S
  | .descriptor _ => .D

/-- The byte a selecting word is laid out as: a second index in bits 5 to 0, a descriptor as it is. -/
def byteOfWord : SelectWord → Byte
  | .second sec => BitVec.setWidth 8 sec
  | .descriptor d => d

/-- The bytes of an instruction: one. -/
def encode (i : Instr) : List Byte := [byteOfWord (encodeWord i)]

/-- The descriptor the multiplexer works on when an instruction runs: a format D row's own word, and for a format S
row the table's `decodes_to` descriptor (R101, R103). -/
def Instr.descriptor : Instr → Desc
  | .m => 0x00
  | .min40 => 0x36
  | .min20 => 0x35
  | .min10 => 0x34
  | .z4 => 0xB0
  | .min8 => 0x33
  | .min4 => 0x32
  | .min2 => 0x31
  | .min1 => 0x30
  | .p1 => 0x11
  | .z10 => 0xB0
  | .z11 => 0xB0
  | .hr20 => 0x25
  | .hr10 => 0x24
  | .z14 => 0xB0
  | .hr8 => 0x23
  | .hr4 => 0x22
  | .hr2 => 0x21
  | .hr1 => 0x20
  | .p2 => 0x12
  | .z20 => 0xB0
  | .z21 => 0xB0
  | .doy200 => 0x49
  | .doy100 => 0x48
  | .z24 => 0xB0
  | .doy80 => 0x47
  | .doy40 => 0x46
  | .doy20 => 0x45
  | .doy10 => 0x44
  | .p3 => 0x13
  | .doy8 => 0x43
  | .doy4 => 0x42
  | .doy2 => 0x41
  | .doy1 => 0x40
  | .z34 => 0xB0
  | .z35 => 0xB0
  | .pa1 => 0x81
  | .pa2 => 0x82
  | .su1 => 0x91
  | .p4 => 0x14
  | .su2 => 0x92
  | .yr80 => 0x57
  | .yr40 => 0x56
  | .yr20 => 0x55
  | .yr10 => 0x54
  | .yr8 => 0x53
  | .yr4 => 0x52
  | .yr2 => 0x51
  | .yr1 => 0x50
  | .p5 => 0x15
  | .wd4 => 0x62
  | .wd2 => 0x61
  | .wd1 => 0x60
  | .ls1 => 0x71
  | .ls2 => 0x72
  | .z55 => 0xB0
  | .z56 => 0xB0
  | .z57 => 0xB0
  | .z58 => 0xB0
  | .p0 => 0x10
  | .zDefault _ => 0xB0
  | .marker idx => mkDesc 0 idx
  | .position idx => mkDesc 1 idx
  | .hourDigit idx => mkDesc 2 idx
  | .minuteDigit idx => mkDesc 3 idx
  | .dayDigit idx => mkDesc 4 idx
  | .yearDigit idx => mkDesc 5 idx
  | .weekdayDigit idx => mkDesc 6 idx
  | .leapSecondFlag idx => mkDesc 7 idx
  | .parityFlag idx => mkDesc 8 idx
  | .reserved idx => mkDesc 9 idx
  | .stopAnnounce idx => mkDesc 10 idx
  | .fixedZero idx => mkDesc 11 idx
  | .reservedKind kk idx => mkDesc (0b11#2 ++ kk) idx

/-! ## The host's table words -/

/-- Which format a table word is read in. The table's rows of both formats take one byte, and a byte below 64 is a
word of both; it is read in format S, the top level's own, and a byte of 64 or more, which only format D has, in
format D (log 3). -/
def tableFormat (nbits w : Nat) : Format :=
  if nbits ≤ 6 || w < 64 then .S else .D

/-- The selecting word a table word stands for, none where a port cannot carry it. -/
def tableWord (nbits w : Nat) : Option SelectWord :=
  if w < 256 then
    match wordOfByte (tableFormat nbits w) (BitVec.ofNat 8 w) with
    | .ok word => some word
    | .error _ => none
  else none

/-- The instruction the decoder reads from a table word, laid out as one byte (log 3). -/
def decodeTableWord (nbits w : Nat) : Option Instr :=
  if w < 256 then
    match decode (tableFormat nbits w) [BitVec.ofNat 8 w] with
    | .ok (i, _) => some i
    | .error _ => none
  else none

end Sys2Proof
end

