-- ==== Sys2Proof/Machine/State.lean ====
section
/-! DEFINITION. State. The block itself holds nothing (R10 to R17): what stands here is every port of its interface
(R20, R21), the descriptor a test bench may drive into the multiplexer (R22), and the bookkeeping of a RUN of
evaluations: the vectors the driver will present (R18), the pulses recorded so far, and the fault mark (R24). -/

namespace Sys2Proof.Machine

/-- SignalValue: what a slot transmits (R56). -/
inductive SignalValue where
  | zero
  | one
  | marker
  deriving DecidableEq, Repr

/-- The faults (R170, R171). As a result of an evaluation they are the spec's two faults; as the answer of a step they
say that the run has ended: `step` raises one, and only one, when the run's mark already holds it (R175, log 9). -/
inductive Fault where
  /-- InvalidArgument, code 1, with the offending value (R170). Raised by `parity` and `bitToSignal`. Safe: the spec
  names the fault, and as a step's answer it stops a run the spec says has no further evaluation. -/
  | invalidArgument (n : Nat)
  /-- UnexpectedSlot, code 2, with the kind and the idx of the descriptor (R171). Raised by StopAnnounce, by ParityFlag
  with an index other than 1 and 2, and by kinds 12 to 15. Safe, for the same reason. Raised by every kind above 15 too,
  which only a W_KIND above 4 bits can carry (DESIGN CHOICE, unsafe, log 13). -/
  | unexpectedSlot (kind idx : Nat)
  deriving DecidableEq, Repr

/-- The refusals. -/
inductive Refusal where
  /-- The instruction has no meaning yet. Raised by no arm of `exec`: every row of the opcode table is modelled. Safe. -/
  | notModelled (mnemonic : String)
  deriving DecidableEq, Repr

/-- One whole input vector (R20, R45), at the widths `c` (R4). -/
structure Inputs (c : Config.Widths := Config.defaults) where
  /-- the second index -/
  sec : BitVec c.wSec
  /-- the descriptor presented at the multiplexer's own interface, if one is (R22); otherwise the resolver drives it -/
  inject : Option (DescAt c)
  hour : BitVec c.wHour
  minute : BitVec c.wMin
  doy : BitVec c.wDoy
  year : BitVec c.wYear
  wday : BitVec c.wWday
  deriving DecidableEq, Repr

/-- The output ports (R21), at the widths `c` (R4). -/
structure Outputs (c : Config.Widths := Config.defaults) where
  slotKind : BitVec c.wKind
  slotIdx : BitVec c.wBit
  value : BitVec c.wVal
  durMs : BitVec c.wDur
  fault : BitVec c.wFault
  deriving DecidableEq, Repr

/-- What an evaluation that does not fault gives the driver to transmit (R193 steps 3 and 4). -/
structure Pulse (c : Config.Widths := Config.defaults) where
  signal : SignalValue
  durMs : BitVec c.wDur
  deriving DecidableEq, Repr

/-- The state of a run, at the widths `c`; `State` alone is the machine at the default widths (R4). -/
structure State (c : Config.Widths := Config.defaults) where
  /-- the vector the input ports hold -/
  inp : Inputs c
  /-- the output ports -/
  out : Outputs c
  /-- the run-level fault mark (R24): set by the first faulting evaluation, never cleared -/
  runFault : Option Fault
  /-- the pulses the run has produced, oldest first -/
  outcomes : List (Pulse c)
  /-- the vectors the driver will present, in order (R18) -/
  pending : List (Inputs c)
  /-- the model's own: how many free values have been drawn (log 4) -/
  freeCount : Nat
  deriving DecidableEq, Repr

/-- Input ports before anything is driven: all 0 (DESIGN CHOICE, log 1). -/
def Inputs.resetAt (c : Config.Widths) : Inputs c where
  sec := 0
  inject := none
  hour := 0
  minute := 0
  doy := 0
  year := 0
  wday := 0

/-- The state after power-on at the widths `c`. The spec has no register to reset (R19, R211); the ports hold zeros and
the outputs are what R212 makes of them: slot Marker, value Marker, 200 ms, no fault (DESIGN CHOICE, log 1). No program
is loaded (log 2). -/
def State.resetAt (c : Config.Widths) : State c where
  inp := Inputs.resetAt c
  out := { slotKind := 0, slotIdx := 0, value := 2, durMs := 200, fault := 0 }
  runFault := none
  outcomes := []
  pending := []
  freeCount := 0

/-- The input ports of the default widths before anything is driven (log 1). -/
def Inputs.reset : Inputs := Inputs.resetAt Config.defaults

/-- The state after power-on (log 1). -/
def State.reset : State := State.resetAt Config.defaults

end Sys2Proof.Machine
end

