-- ==== Sys2Proof/Machine/Operands.lean ====
section
/-! DEFINITION. The operands: the five time fields on the NW-bit operand bus (R58), and the BCD digit extractor that
reads one bit of them (R80 to R83). All arithmetic is on natural numbers (R87, R88). -/

namespace Sys2Proof.Machine

/-- The five time fields as natural numbers. The functions over them do not depend on the port widths (R4). -/
structure TimeFields where
  hour : Nat
  minute : Nat
  doy : Nat
  year : Nat
  wday : Nat
  deriving DecidableEq, Repr

/-- The number a port puts on an operand bus of `nw` bits, to which it is zero-extended (R58). -/
def operand (nw : Nat) {w : Nat} (port : BitVec w) : Nat := (BitVec.setWidth nw port).toNat

/-- The time fields of an input vector (R58). -/
def Inputs.fields {c : Config.Widths} (inp : Inputs c) : TimeFields where
  hour := operand c.nw inp.hour
  minute := operand c.nw inp.minute
  doy := operand c.nw inp.doy
  year := operand c.nw inp.year
  wday := operand c.nw inp.wday

/-- The selecting word of an input vector of the opcode table's widths: the injected descriptor if there is one, else the
second index (R22). -/
def Inputs.selectWord (inp : Inputs) : SelectWord :=
  match inp.inject with
  | none => .second inp.sec
  | some d => .descriptor d

/-- An input vector with its selecting word replaced. -/
def Inputs.withSelectWord (inp : Inputs) : SelectWord → Inputs
  | .second sec => { inp with sec := sec, inject := none }
  | .descriptor d => { inp with inject := some d }

/-- `bcd_digit(n, k)`: bit `k mod 4` of the decimal digit of `n` at position `k div 4`. Total (R80, R81). -/
def bcdDigit (n k : Nat) : Nat :=
  let p := k / 4
  let b := k % 4
  let d := (n / 10 ^ p) % 10
  (d / 2 ^ b) % 2

/-- `weight(k)`, the decimal value of a bit-index (R82). -/
def weight (k : Nat) : Nat := 2 ^ (k % 4) * 10 ^ (k / 4)

end Sys2Proof.Machine
end

