-- ==== Sys2Proof/Machine/Flags.lean ====
section
/-! DEFINITION. The one-bit results and the codes on the wire: the parity calculator (R84 to R86), the conversion of a
bit to a signal value (R131), the codes of signal values and faults (R56, R57) and the pulse duration (R144). The block
has no status flag (R13). -/

namespace Sys2Proof.Machine

/-- `parity(n)`: even parity over the eight BCD bits of the two low digits; InvalidArgument from 100 on, tested before
any bit is summed (R84, R85). -/
def parity (n : Nat) : Except Fault Nat :=
  if 100 ≤ n then .error (.invalidArgument n)
  else .ok ((bcdDigit n 0 + bcdDigit n 1 + bcdDigit n 2 + bcdDigit n 3
    + bcdDigit n 4 + bcdDigit n 5 + bcdDigit n 6 + bcdDigit n 7) % 2)

/-- `bit_to_signal(v)`, with the arm no input reaches (R131). -/
def bitToSignal (v : Nat) : Except Fault SignalValue :=
  if v = 0 then .ok .zero
  else if v = 1 then .ok .one
  else .error (.invalidArgument v)

/-- The code of a signal value on a `value` port of width `w` (R56). -/
def SignalValue.codeAt (w : Nat) : SignalValue → BitVec w
  | .zero => 0
  | .one => 1
  | .marker => 2

/-- `duration_ms`, in milliseconds (R144). -/
def durationMs : SignalValue → Nat
  | .marker => 200
  | .one => 500
  | .zero => 800

/-- The duration as a `dur_ms` port of width `w` carries it (R21, R144). -/
def SignalValue.durMsAt (w : Nat) (v : SignalValue) : BitVec w := BitVec.ofNat w (durationMs v)

/-- The code of a fault on a `fault` port of width `w` (R57). -/
def Fault.codeAt (w : Nat) : Fault → BitVec w
  | .invalidArgument _ => 1
  | .unexpectedSlot _ _ => 2

/-! The same at the default widths. -/

/-- The code of a signal value on `value` (R56). -/
def SignalValue.code (v : SignalValue) : BitVec Config.defaults.wVal := v.codeAt Config.defaults.wVal

/-- The duration as the `dur_ms` port carries it (R21, R144). -/
def SignalValue.durMs (v : SignalValue) : BitVec Config.defaults.wDur := v.durMsAt Config.defaults.wDur

/-- The code of a fault on `fault` (R57). -/
def Fault.code (f : Fault) : BitVec Config.defaults.wFault := f.codeAt Config.defaults.wFault

end Sys2Proof.Machine
end

