-- ==== Sys2Proof/Machine/Mux.lean ====
section
/-! DEFINITION. The signal-value multiplexer: one result function per FrameSlot variant (R132 to R145), and their
dispatch `signalOf` (R130), all over the natural numbers (R4); `signalValue` is the dispatch on a descriptor of the opcode
table. -/

namespace Sys2Proof.Machine

/-- The result of an evaluation: a signal value or a fault, never both (R7). -/
abbrev Result := Except Fault SignalValue

/-- A digit variant: one BCD bit of a field (R134 to R138). -/
def signalDigit (n : Nat) (k : Nat) : Result := bitToSignal (bcdDigit n k)

/-- The parity of a field, as a signal value (R139). -/
def signalParity (n : Nat) : Result :=
  match parity n with
  | .ok b => bitToSignal b
  | .error f => .error f

/-- Marker (R132). -/
def signalMarker : Result := .ok .marker

/-- Position: the index is not used (R133). -/
def signalPosition : Result := .ok .marker

/-- HourDigit (R134). -/
def signalHour (f : TimeFields) (k : Nat) : Result := signalDigit f.hour k

/-- MinuteDigit (R135). -/
def signalMinute (f : TimeFields) (k : Nat) : Result := signalDigit f.minute k

/-- DayDigit (R136). -/
def signalDay (f : TimeFields) (k : Nat) : Result := signalDigit f.doy k

/-- YearDigit (R137). -/
def signalYear (f : TimeFields) (k : Nat) : Result := signalDigit f.year k

/-- WeekdayDigit (R138). -/
def signalWeekday (f : TimeFields) (k : Nat) : Result := signalDigit f.wday k

/-- LeapSecondFlag: Zero unconditionally (R142). -/
def signalLeapSecond : Result := .ok .zero

/-- ParityFlag: index 1 is the hour's parity and 2 the minute's; the index is tested first (R139, R173). -/
def signalParityFlag (f : TimeFields) (idx : Nat) : Result :=
  if idx = 1 then signalParity f.hour
  else if idx = 2 then signalParity f.minute
  else .error (.unexpectedSlot 8 idx)

/-- Reserved: Zero, whatever the index (R140). -/
def signalReserved : Result := .ok .zero

/-- StopAnnounce: the fault UnexpectedSlot, whatever the index (R141). -/
def signalStopAnnounce (idx : Nat) : Result := .error (.unexpectedSlot 10 idx)

/-- FixedZero (R145). -/
def signalFixedZero : Result := .ok .zero

/-- Kinds 12 to 15: the fault UnexpectedSlot (R143). So too every larger kind, which only a W_KIND above 4 bits can carry
and of which the spec says nothing (DESIGN CHOICE, log 13). -/
def signalReservedKind (kind idx : Nat) : Result := .error (.unexpectedSlot kind idx)

/-- `signal_value`: dispatch on the kind (R130). The last arm is the kinds 12 to 15, and with a wider W_KIND every kind
above (DESIGN CHOICE, log 13). -/
def signalOf (kind idx : Nat) (f : TimeFields) : Result :=
  match kind with
  | 0 => signalMarker
  | 1 => signalPosition
  | 2 => signalHour f idx
  | 3 => signalMinute f idx
  | 4 => signalDay f idx
  | 5 => signalYear f idx
  | 6 => signalWeekday f idx
  | 7 => signalLeapSecond
  | 8 => signalParityFlag f idx
  | 9 => signalReserved
  | 10 => signalStopAnnounce idx
  | 11 => signalFixedZero
  | _ => signalReservedKind kind idx

/-- `signal_value` of a descriptor of the opcode table (R51, R130). -/
def signalValue (d : Desc) (f : TimeFields) : Result := signalOf (descKind d).toNat (descIdx d).toNat f

end Sys2Proof.Machine
end

