-- ==== Sys2Proof/Machine/Resolver.lean ====
section
/-! DEFINITION. The frame-slot resolver with its constant table (R100 to R108), and the block's composition `encode`
(R146), here `encodeBlock`. -/

namespace Sys2Proof.Machine

/-- Seconds 0 to 9: the minute (R101). -/
def slotSegment0 : List FrameSlot :=
  [.marker, .minuteDigit 6, .minuteDigit 5, .minuteDigit 4, .fixedZero,
   .minuteDigit 3, .minuteDigit 2, .minuteDigit 1, .minuteDigit 0, .position 1]

/-- Seconds 10 to 19: the hour (R101). -/
def slotSegment1 : List FrameSlot :=
  [.fixedZero, .fixedZero, .hourDigit 5, .hourDigit 4, .fixedZero,
   .hourDigit 3, .hourDigit 2, .hourDigit 1, .hourDigit 0, .position 2]

/-- Seconds 20 to 29: hundreds and tens of the day of year (R101). -/
def slotSegment2 : List FrameSlot :=
  [.fixedZero, .fixedZero, .dayDigit 9, .dayDigit 8, .fixedZero,
   .dayDigit 7, .dayDigit 6, .dayDigit 5, .dayDigit 4, .position 3]

/-- Seconds 30 to 39: ones of the day of year, the two parities, the first reserved bit (R101, R106, R107). -/
def slotSegment3 : List FrameSlot :=
  [.dayDigit 3, .dayDigit 2, .dayDigit 1, .dayDigit 0, .fixedZero,
   .fixedZero, .parityFlag 1, .parityFlag 2, .reserved 1, .position 4]

/-- Seconds 40 to 49: the second reserved bit and the year (R101, R107). -/
def slotSegment4 : List FrameSlot :=
  [.reserved 2, .yearDigit 7, .yearDigit 6, .yearDigit 5, .yearDigit 4,
   .yearDigit 3, .yearDigit 2, .yearDigit 1, .yearDigit 0, .position 5]

/-- Seconds 50 to 59: the day of week and the leap-second bits (R101, R102, R104, R108). -/
def slotSegment5 : List FrameSlot :=
  [.weekdayDigit 2, .weekdayDigit 1, .weekdayDigit 0, .leapSecondFlag 1, .leapSecondFlag 2,
   .fixedZero, .fixedZero, .fixedZero, .fixedZero, .position 0]

/-- `SlotTable`, the constant frame table: 60 entries, addressed by the second index (R30, R101). -/
def slotTable : List FrameSlot :=
  slotSegment0 ++ slotSegment1 ++ slotSegment2 ++ slotSegment3 ++ slotSegment4 ++ slotSegment5

/-- `slot_for_second`: the table's entry, and FixedZero above 59 (R100, R103). -/
def slotOf (sec : Nat) : FrameSlot := (slotTable[sec]?).getD .fixedZero

/-- `encode`: the resolver, then the multiplexer, then the duration; a raise ends it with that fault (R146). -/
def encodeOf (sec : Nat) (f : TimeFields) : Except Fault (FrameSlot × SignalValue × Nat) :=
  let slot := slotOf sec
  match signalOf slot.kindCode slot.payload f with
  | .ok v => .ok (slot, v, durationMs v)
  | .error e => .error e

/-- `slot_for_second` of a second index of the opcode table (R100). -/
def slotForSecond (sec : Second) : FrameSlot := slotOf sec.toNat

/-- `encode` at a second index of the opcode table (R146). -/
def encodeBlock (sec : Second) (f : TimeFields) : Except Fault (FrameSlot × SignalValue × Nat) := encodeOf sec.toNat f

/-- The descriptor the multiplexer sees for an input vector: the injected one, else the resolver's (R22, R146). -/
def Inputs.descriptor {c : Config.Widths} (inp : Inputs c) : DescAt c :=
  match inp.inject with
  | none => (slotOf inp.sec.toNat).descriptorAt c
  | some d => d

/-- What the block answers to an input vector (R130, R146). -/
def Inputs.result {c : Config.Widths} (inp : Inputs c) : Result :=
  signalOf (kindAt c inp.descriptor).toNat (idxAt c inp.descriptor).toNat inp.fields

end Sys2Proof.Machine
end

