-- ==== Sys2Proof/Machine/Ops.lean ====
section
/-! DEFINITION. The shared operations of a run, at any widths: presenting a vector, driving the outputs with a value,
raising a fault. At the default widths, those of the opcode table, also fetching the instruction a vector selects, and
`complete`, which every meaning is one call of. -/

namespace Sys2Proof.Machine

variable {c : Config.Widths}

/-- The vector the next evaluation sees: the first pending one, else the one the ports hold (R193, R195). -/
def State.nextInputs (s : State c) : Inputs c := s.pending.headD s.inp

/-- Present that vector to the input ports, all six at once (R45). -/
def State.present (s : State c) : State c := { s with inp := s.nextInputs, pending := s.pending.tail }

/-- The outputs of an evaluation that yields a value: the descriptor's fields, the value's code and duration, no
fault (R21, R51, R130, R146; log 5). -/
def Outputs.ofValue (d : DescAt c) (v : SignalValue) : Outputs c where
  slotKind := kindAt c d
  slotIdx := idxAt c d
  value := v.codeAt c.wVal
  durMs := v.durMsAt c.wDur
  fault := 0

/-- The outputs of an evaluation that raises a fault: its code, and free values on the other ports (R21, R174). -/
def Outputs.ofFault (f : Fault) (n : Nat) : Outputs c where
  slotKind := Config.freeSlotKind c.wKind n
  slotIdx := Config.freeSlotIdx c.wBit n
  value := Config.freeValue c.wVal n
  durMs := Config.freeDurMs c.wDur n
  fault := f.codeAt c.wFault

/-- An evaluation that yields a value: drive the outputs and record the pulse. -/
def State.emit (s : State c) (d : DescAt c) (v : SignalValue) : State c :=
  { s with out := Outputs.ofValue d v, outcomes := s.outcomes ++ [{ signal := v, durMs := v.durMsAt c.wDur }] }

/-- Taking a fault (R174, R175): the outputs carry its code, the run's mark is set if none is set yet, and no pulse is
recorded. No state is saved, no mode changes and control goes nowhere. -/
def State.raise (s : State c) (f : Fault) : State c :=
  { s with
    out := Outputs.ofFault f s.freeCount
    runFault := some (s.runFault.getD f)
    freeCount := s.freeCount + 1 }

/-- The state after an evaluation of descriptor `d` with the result `r`. -/
def State.settle (s : State c) (d : DescAt c) (r : Result) : State c :=
  match r with
  | .ok v => s.emit d v
  | .error f => s.raise f

/-- One evaluation of the vector the ports hold, as the composition of the resolver and the multiplexer (R22, R146). -/
def State.evaluate (s : State c) : State c := s.settle s.inp.descriptor s.inp.result

/-- One evaluation of a run at the widths `c` (R4, R24, R175, R193). At the default widths it is `step`, which runs the
opcode table's meanings (Obligations.StepIsBlockComposition). -/
def stepAt (s : State c) : Host.Outcome (State c) Fault Refusal :=
  match s.runFault with
  | some f => .fault f
  | none => .next s.present.evaluate

/-! ## The default widths -/

/-- What every meaning answers. -/
abbrev Answer := Host.Outcome State Fault Refusal

/-- The instruction the presented vector selects. -/
def State.fetch (s : State) : Instr := decodeWord s.inp.selectWord

/-- An evaluation: the shared end of every meaning. The block is total, so there is always a next state. -/
def complete (d : Desc) (r : Result) (s : State) : Answer := .next (s.settle d r)

end Sys2Proof.Machine
end

