-- ==== Sys2Proof/Machine/DayOfYear.lean ====
section
/-! DEFINITION. Meanings of the format S rows for the ten day-of-year bits (R136). -/

namespace Sys2Proof.Machine

/-- DOY200, second 22: DayDigit(9) (R101, R136). -/
def execDoy200 (s : State) : Answer :=
  complete (FrameSlot.dayDigit 9).descriptor (signalDay s.inp.fields 9) s

/-- DOY100, second 23: DayDigit(8) (R101, R136). -/
def execDoy100 (s : State) : Answer :=
  complete (FrameSlot.dayDigit 8).descriptor (signalDay s.inp.fields 8) s

/-- DOY80, second 25: DayDigit(7) (R101, R136). -/
def execDoy80 (s : State) : Answer :=
  complete (FrameSlot.dayDigit 7).descriptor (signalDay s.inp.fields 7) s

/-- DOY40, second 26: DayDigit(6) (R101, R136). -/
def execDoy40 (s : State) : Answer :=
  complete (FrameSlot.dayDigit 6).descriptor (signalDay s.inp.fields 6) s

/-- DOY20, second 27: DayDigit(5) (R101, R136). -/
def execDoy20 (s : State) : Answer :=
  complete (FrameSlot.dayDigit 5).descriptor (signalDay s.inp.fields 5) s

/-- DOY10, second 28: DayDigit(4) (R101, R136). -/
def execDoy10 (s : State) : Answer :=
  complete (FrameSlot.dayDigit 4).descriptor (signalDay s.inp.fields 4) s

/-- DOY8, second 30: DayDigit(3) (R101, R136). -/
def execDoy8 (s : State) : Answer :=
  complete (FrameSlot.dayDigit 3).descriptor (signalDay s.inp.fields 3) s

/-- DOY4, second 31: DayDigit(2) (R101, R136). -/
def execDoy4 (s : State) : Answer :=
  complete (FrameSlot.dayDigit 2).descriptor (signalDay s.inp.fields 2) s

/-- DOY2, second 32: DayDigit(1) (R101, R136). -/
def execDoy2 (s : State) : Answer :=
  complete (FrameSlot.dayDigit 1).descriptor (signalDay s.inp.fields 1) s

/-- DOY1, second 33: DayDigit(0) (R101, R136). -/
def execDoy1 (s : State) : Answer :=
  complete (FrameSlot.dayDigit 0).descriptor (signalDay s.inp.fields 0) s

end Sys2Proof.Machine
end

