-- ==== Sys2Proof/Machine/Descriptor.lean ====
section
/-! DEFINITION. Meanings of the format D rows: a descriptor presented at the multiplexer's own interface (R22, R130).
A payload outside its variant's range has the meaning rule R61 gives it. -/

namespace Sys2Proof.Machine

/-- Marker, kind 0, for every payload (R132, R61). -/
def execMarker (idx : Idx) (s : State) : Answer :=
  complete (mkDesc 0 idx) signalMarker s

/-- Position, kind 1, for every payload (R133, R61). -/
def execPosition (idx : Idx) (s : State) : Answer :=
  complete (mkDesc 1 idx) signalPosition s

/-- HourDigit, kind 2, for every payload (R134, R61). -/
def execHourDigit (idx : Idx) (s : State) : Answer :=
  complete (mkDesc 2 idx) (signalHour s.inp.fields idx.toNat) s

/-- MinuteDigit, kind 3, for every payload (R135, R61). -/
def execMinuteDigit (idx : Idx) (s : State) : Answer :=
  complete (mkDesc 3 idx) (signalMinute s.inp.fields idx.toNat) s

/-- DayDigit, kind 4, for every payload (R136, R61). -/
def execDayDigit (idx : Idx) (s : State) : Answer :=
  complete (mkDesc 4 idx) (signalDay s.inp.fields idx.toNat) s

/-- YearDigit, kind 5, for every payload (R137, R61). -/
def execYearDigit (idx : Idx) (s : State) : Answer :=
  complete (mkDesc 5 idx) (signalYear s.inp.fields idx.toNat) s

/-- WeekdayDigit, kind 6, for every payload (R138, R61). -/
def execWeekdayDigit (idx : Idx) (s : State) : Answer :=
  complete (mkDesc 6 idx) (signalWeekday s.inp.fields idx.toNat) s

/-- LeapSecondFlag, kind 7, for every payload (R142, R61). -/
def execLeapSecondFlag (idx : Idx) (s : State) : Answer :=
  complete (mkDesc 7 idx) signalLeapSecond s

/-- ParityFlag, kind 8, for every payload (R139, R61). -/
def execParityFlag (idx : Idx) (s : State) : Answer :=
  complete (mkDesc 8 idx) (signalParityFlag s.inp.fields idx.toNat) s

/-- Reserved, kind 9, for every payload (R140, R61). -/
def execReserved (idx : Idx) (s : State) : Answer :=
  complete (mkDesc 9 idx) signalReserved s

/-- StopAnnounce, kind 10, for every payload (R141, R61). -/
def execStopAnnounce (idx : Idx) (s : State) : Answer :=
  complete (mkDesc 10 idx) (signalStopAnnounce idx.toNat) s

/-- FixedZero, kind 11, for every payload (R145, R61). -/
def execFixedZero (idx : Idx) (s : State) : Answer :=
  complete (mkDesc 11 idx) signalFixedZero s

/-- RESERVED_KIND, kinds 12 to 15: UnexpectedSlot (R143, R60). -/
def execReservedKind (kk : BitVec 2) (idx : Idx) (s : State) : Answer :=
  complete (mkDesc (0b11#2 ++ kk) idx) (signalReservedKind (0b11#2 ++ kk).toNat idx.toNat) s

end Sys2Proof.Machine
end

