-- ==== Sys2Proof/Machine/Hour.lean ====
section
/-! DEFINITION. Meanings of the format S rows for the six hour bits (R134). -/

namespace Sys2Proof.Machine

/-- HR20, second 12: HourDigit(5) (R101, R134). -/
def execHr20 (s : State) : Answer :=
  complete (FrameSlot.hourDigit 5).descriptor (signalHour s.inp.fields 5) s

/-- HR10, second 13: HourDigit(4) (R101, R134). -/
def execHr10 (s : State) : Answer :=
  complete (FrameSlot.hourDigit 4).descriptor (signalHour s.inp.fields 4) s

/-- HR8, second 15: HourDigit(3) (R101, R134). -/
def execHr8 (s : State) : Answer :=
  complete (FrameSlot.hourDigit 3).descriptor (signalHour s.inp.fields 3) s

/-- HR4, second 16: HourDigit(2) (R101, R134). -/
def execHr4 (s : State) : Answer :=
  complete (FrameSlot.hourDigit 2).descriptor (signalHour s.inp.fields 2) s

/-- HR2, second 17: HourDigit(1) (R101, R134). -/
def execHr2 (s : State) : Answer :=
  complete (FrameSlot.hourDigit 1).descriptor (signalHour s.inp.fields 1) s

/-- HR1, second 18: HourDigit(0) (R101, R134). -/
def execHr1 (s : State) : Answer :=
  complete (FrameSlot.hourDigit 0).descriptor (signalHour s.inp.fields 0) s

end Sys2Proof.Machine
end

