-- ==== Sys2Proof/Machine/Markers.lean ====
section
/-! DEFINITION. Meanings of the format S rows for the start-of-minute marker and the six positions (R132, R133). -/

namespace Sys2Proof.Machine

/-- M, second 0: Marker (R101, R132). -/
def execM (s : State) : Answer :=
  complete FrameSlot.marker.descriptor signalMarker s

/-- P1, second 9: Position(1) (R101, R133). -/
def execP1 (s : State) : Answer :=
  complete (FrameSlot.position 1).descriptor signalPosition s

/-- P2, second 19: Position(2) (R101, R133). -/
def execP2 (s : State) : Answer :=
  complete (FrameSlot.position 2).descriptor signalPosition s

/-- P3, second 29: Position(3) (R101, R133). -/
def execP3 (s : State) : Answer :=
  complete (FrameSlot.position 3).descriptor signalPosition s

/-- P4, second 39: Position(4) (R101, R133). -/
def execP4 (s : State) : Answer :=
  complete (FrameSlot.position 4).descriptor signalPosition s

/-- P5, second 49: Position(5) (R101, R133). -/
def execP5 (s : State) : Answer :=
  complete (FrameSlot.position 5).descriptor signalPosition s

/-- P0, second 59: Position(0) (R101, R133). -/
def execP0 (s : State) : Answer :=
  complete (FrameSlot.position 0).descriptor signalPosition s

end Sys2Proof.Machine
end

