-- ==== Sys2Proof/Machine/Minute.lean ====
section
/-! DEFINITION. Meanings of the format S rows for the seven minute bits (R135). -/

namespace Sys2Proof.Machine

/-- MIN40, second 1: MinuteDigit(6) (R101, R135). -/
def execMin40 (s : State) : Answer :=
  complete (FrameSlot.minuteDigit 6).descriptor (signalMinute s.inp.fields 6) s

/-- MIN20, second 2: MinuteDigit(5) (R101, R135). -/
def execMin20 (s : State) : Answer :=
  complete (FrameSlot.minuteDigit 5).descriptor (signalMinute s.inp.fields 5) s

/-- MIN10, second 3: MinuteDigit(4) (R101, R135). -/
def execMin10 (s : State) : Answer :=
  complete (FrameSlot.minuteDigit 4).descriptor (signalMinute s.inp.fields 4) s

/-- MIN8, second 5: MinuteDigit(3) (R101, R135). -/
def execMin8 (s : State) : Answer :=
  complete (FrameSlot.minuteDigit 3).descriptor (signalMinute s.inp.fields 3) s

/-- MIN4, second 6: MinuteDigit(2) (R101, R135). -/
def execMin4 (s : State) : Answer :=
  complete (FrameSlot.minuteDigit 2).descriptor (signalMinute s.inp.fields 2) s

/-- MIN2, second 7: MinuteDigit(1) (R101, R135). -/
def execMin2 (s : State) : Answer :=
  complete (FrameSlot.minuteDigit 1).descriptor (signalMinute s.inp.fields 1) s

/-- MIN1, second 8: MinuteDigit(0) (R101, R135). -/
def execMin1 (s : State) : Answer :=
  complete (FrameSlot.minuteDigit 0).descriptor (signalMinute s.inp.fields 0) s

end Sys2Proof.Machine
end

