-- ==== Sys2Proof/Machine/Parity.lean ====
section
/-! DEFINITION. Meanings of the format S rows for the two parity bits (R139). -/

namespace Sys2Proof.Machine

/-- PA1, second 36: ParityFlag(1) (R101, R139). -/
def execPa1 (s : State) : Answer :=
  complete (FrameSlot.parityFlag 1).descriptor (signalParityFlag s.inp.fields 1) s

/-- PA2, second 37: ParityFlag(2) (R101, R139). -/
def execPa2 (s : State) : Answer :=
  complete (FrameSlot.parityFlag 2).descriptor (signalParityFlag s.inp.fields 2) s

end Sys2Proof.Machine
end

