-- ==== Sys2Proof/Machine/Weekday.lean ====
section
/-! DEFINITION. Meanings of the format S rows for the three day-of-week bits (R138). -/

namespace Sys2Proof.Machine

/-- WD4, second 50: WeekdayDigit(2) (R101, R138). -/
def execWd4 (s : State) : Answer :=
  complete (FrameSlot.weekdayDigit 2).descriptor (signalWeekday s.inp.fields 2) s

/-- WD2, second 51: WeekdayDigit(1) (R101, R138). -/
def execWd2 (s : State) : Answer :=
  complete (FrameSlot.weekdayDigit 1).descriptor (signalWeekday s.inp.fields 1) s

/-- WD1, second 52: WeekdayDigit(0) (R101, R138). -/
def execWd1 (s : State) : Answer :=
  complete (FrameSlot.weekdayDigit 0).descriptor (signalWeekday s.inp.fields 0) s

end Sys2Proof.Machine
end

