-- ==== Sys2Proof/Machine/Year.lean ====
section
/-! DEFINITION. Meanings of the format S rows for the eight year bits (R137). -/

namespace Sys2Proof.Machine

/-- YR80, second 41: YearDigit(7) (R101, R137). -/
def execYr80 (s : State) : Answer :=
  complete (FrameSlot.yearDigit 7).descriptor (signalYear s.inp.fields 7) s

/-- YR40, second 42: YearDigit(6) (R101, R137). -/
def execYr40 (s : State) : Answer :=
  complete (FrameSlot.yearDigit 6).descriptor (signalYear s.inp.fields 6) s

/-- YR20, second 43: YearDigit(5) (R101, R137). -/
def execYr20 (s : State) : Answer :=
  complete (FrameSlot.yearDigit 5).descriptor (signalYear s.inp.fields 5) s

/-- YR10, second 44: YearDigit(4) (R101, R137). -/
def execYr10 (s : State) : Answer :=
  complete (FrameSlot.yearDigit 4).descriptor (signalYear s.inp.fields 4) s

/-- YR8, second 45: YearDigit(3) (R101, R137). -/
def execYr8 (s : State) : Answer :=
  complete (FrameSlot.yearDigit 3).descriptor (signalYear s.inp.fields 3) s

/-- YR4, second 46: YearDigit(2) (R101, R137). -/
def execYr4 (s : State) : Answer :=
  complete (FrameSlot.yearDigit 2).descriptor (signalYear s.inp.fields 2) s

/-- YR2, second 47: YearDigit(1) (R101, R137). -/
def execYr2 (s : State) : Answer :=
  complete (FrameSlot.yearDigit 1).descriptor (signalYear s.inp.fields 1) s

/-- YR1, second 48: YearDigit(0) (R101, R137). -/
def execYr1 (s : State) : Answer :=
  complete (FrameSlot.yearDigit 0).descriptor (signalYear s.inp.fields 0) s

end Sys2Proof.Machine
end

