-- ==== Sys2Proof/Machine/Zeros.lean ====
section
/-! DEFINITION. Meanings of the format S rows for the constant zeros: leap-second bits (R142), reserved bits (R140), FixedZero seconds (R145) and the default row for seconds 60 to 63 (R103). -/

namespace Sys2Proof.Machine

/-- Z, second 4: FixedZero (R101, R145). -/
def execZ4 (s : State) : Answer :=
  complete FrameSlot.fixedZero.descriptor signalFixedZero s

/-- Z, second 10: FixedZero (R101, R145). -/
def execZ10 (s : State) : Answer :=
  complete FrameSlot.fixedZero.descriptor signalFixedZero s

/-- Z, second 11: FixedZero (R101, R145). -/
def execZ11 (s : State) : Answer :=
  complete FrameSlot.fixedZero.descriptor signalFixedZero s

/-- Z, second 14: FixedZero (R101, R145). -/
def execZ14 (s : State) : Answer :=
  complete FrameSlot.fixedZero.descriptor signalFixedZero s

/-- Z, second 20: FixedZero (R101, R145). -/
def execZ20 (s : State) : Answer :=
  complete FrameSlot.fixedZero.descriptor signalFixedZero s

/-- Z, second 21: FixedZero (R101, R145). -/
def execZ21 (s : State) : Answer :=
  complete FrameSlot.fixedZero.descriptor signalFixedZero s

/-- Z, second 24: FixedZero (R101, R145). -/
def execZ24 (s : State) : Answer :=
  complete FrameSlot.fixedZero.descriptor signalFixedZero s

/-- Z, second 34: FixedZero (R101, R145). -/
def execZ34 (s : State) : Answer :=
  complete FrameSlot.fixedZero.descriptor signalFixedZero s

/-- Z, second 35: FixedZero (R101, R145). -/
def execZ35 (s : State) : Answer :=
  complete FrameSlot.fixedZero.descriptor signalFixedZero s

/-- SU1, second 38: Reserved(1) (R101, R140). -/
def execSu1 (s : State) : Answer :=
  complete (FrameSlot.reserved 1).descriptor signalReserved s

/-- SU2, second 40: Reserved(2) (R101, R140). -/
def execSu2 (s : State) : Answer :=
  complete (FrameSlot.reserved 2).descriptor signalReserved s

/-- LS1, second 53: LeapSecondFlag(1) (R101, R142). -/
def execLs1 (s : State) : Answer :=
  complete (FrameSlot.leapSecondFlag 1).descriptor signalLeapSecond s

/-- LS2, second 54: LeapSecondFlag(2) (R101, R142). -/
def execLs2 (s : State) : Answer :=
  complete (FrameSlot.leapSecondFlag 2).descriptor signalLeapSecond s

/-- Z, second 55: FixedZero (R101, R145). -/
def execZ55 (s : State) : Answer :=
  complete FrameSlot.fixedZero.descriptor signalFixedZero s

/-- Z, second 56: FixedZero (R101, R145). -/
def execZ56 (s : State) : Answer :=
  complete FrameSlot.fixedZero.descriptor signalFixedZero s

/-- Z, second 57: FixedZero (R101, R145). -/
def execZ57 (s : State) : Answer :=
  complete FrameSlot.fixedZero.descriptor signalFixedZero s

/-- Z, second 58: FixedZero (R101, R145). -/
def execZ58 (s : State) : Answer :=
  complete FrameSlot.fixedZero.descriptor signalFixedZero s

/-- Z, second 60 to 63: FixedZero (R103, R145). -/
def execZDefault (_ss : BitVec 2) (s : State) : Answer :=
  complete FrameSlot.fixedZero.descriptor signalFixedZero s

end Sys2Proof.Machine
end

