-- ==== Sys2Proof/Machine/Dispatch.lean ====
section
/-! DEFINITION. Dispatch: one arm per row of the opcode table. -/

namespace Sys2Proof.Machine

def exec (i : Instr) (s : State) : Host.Outcome State Fault Refusal :=
  match i with
  | .m => Sys2Proof.Machine.execM s
  | .min40 => Sys2Proof.Machine.execMin40 s
  | .min20 => Sys2Proof.Machine.execMin20 s
  | .min10 => Sys2Proof.Machine.execMin10 s
  | .z4 => Sys2Proof.Machine.execZ4 s
  | .min8 => Sys2Proof.Machine.execMin8 s
  | .min4 => Sys2Proof.Machine.execMin4 s
  | .min2 => Sys2Proof.Machine.execMin2 s
  | .min1 => Sys2Proof.Machine.execMin1 s
  | .p1 => Sys2Proof.Machine.execP1 s
  | .z10 => Sys2Proof.Machine.execZ10 s
  | .z11 => Sys2Proof.Machine.execZ11 s
  | .hr20 => Sys2Proof.Machine.execHr20 s
  | .hr10 => Sys2Proof.Machine.execHr10 s
  | .z14 => Sys2Proof.Machine.execZ14 s
  | .hr8 => Sys2Proof.Machine.execHr8 s
  | .hr4 => Sys2Proof.Machine.execHr4 s
  | .hr2 => Sys2Proof.Machine.execHr2 s
  | .hr1 => Sys2Proof.Machine.execHr1 s
  | .p2 => Sys2Proof.Machine.execP2 s
  | .z20 => Sys2Proof.Machine.execZ20 s
  | .z21 => Sys2Proof.Machine.execZ21 s
  | .doy200 => Sys2Proof.Machine.execDoy200 s
  | .doy100 => Sys2Proof.Machine.execDoy100 s
  | .z24 => Sys2Proof.Machine.execZ24 s
  | .doy80 => Sys2Proof.Machine.execDoy80 s
  | .doy40 => Sys2Proof.Machine.execDoy40 s
  | .doy20 => Sys2Proof.Machine.execDoy20 s
  | .doy10 => Sys2Proof.Machine.execDoy10 s
  | .p3 => Sys2Proof.Machine.execP3 s
  | .doy8 => Sys2Proof.Machine.execDoy8 s
  | .doy4 => Sys2Proof.Machine.execDoy4 s
  | .doy2 => Sys2Proof.Machine.execDoy2 s
  | .doy1 => Sys2Proof.Machine.execDoy1 s
  | .z34 => Sys2Proof.Machine.execZ34 s
  | .z35 => Sys2Proof.Machine.execZ35 s
  | .pa1 => Sys2Proof.Machine.execPa1 s
  | .pa2 => Sys2Proof.Machine.execPa2 s
  | .su1 => Sys2Proof.Machine.execSu1 s
  | .p4 => Sys2Proof.Machine.execP4 s
  | .su2 => Sys2Proof.Machine.execSu2 s
  | .yr80 => Sys2Proof.Machine.execYr80 s
  | .yr40 => Sys2Proof.Machine.execYr40 s
  | .yr20 => Sys2Proof.Machine.execYr20 s
  | .yr10 => Sys2Proof.Machine.execYr10 s
  | .yr8 => Sys2Proof.Machine.execYr8 s
  | .yr4 => Sys2Proof.Machine.execYr4 s
  | .yr2 => Sys2Proof.Machine.execYr2 s
  | .yr1 => Sys2Proof.Machine.execYr1 s
  | .p5 => Sys2Proof.Machine.execP5 s
  | .wd4 => Sys2Proof.Machine.execWd4 s
  | .wd2 => Sys2Proof.Machine.execWd2 s
  | .wd1 => Sys2Proof.Machine.execWd1 s
  | .ls1 => Sys2Proof.Machine.execLs1 s
  | .ls2 => Sys2Proof.Machine.execLs2 s
  | .z55 => Sys2Proof.Machine.execZ55 s
  | .z56 => Sys2Proof.Machine.execZ56 s
  | .z57 => Sys2Proof.Machine.execZ57 s
  | .z58 => Sys2Proof.Machine.execZ58 s
  | .p0 => Sys2Proof.Machine.execP0 s
  | .zDefault ss => Sys2Proof.Machine.execZDefault ss s
  | .marker idx => Sys2Proof.Machine.execMarker idx s
  | .position idx => Sys2Proof.Machine.execPosition idx s
  | .hourDigit idx => Sys2Proof.Machine.execHourDigit idx s
  | .minuteDigit idx => Sys2Proof.Machine.execMinuteDigit idx s
  | .dayDigit idx => Sys2Proof.Machine.execDayDigit idx s
  | .yearDigit idx => Sys2Proof.Machine.execYearDigit idx s
  | .weekdayDigit idx => Sys2Proof.Machine.execWeekdayDigit idx s
  | .leapSecondFlag idx => Sys2Proof.Machine.execLeapSecondFlag idx s
  | .parityFlag idx => Sys2Proof.Machine.execParityFlag idx s
  | .reserved idx => Sys2Proof.Machine.execReserved idx s
  | .stopAnnounce idx => Sys2Proof.Machine.execStopAnnounce idx s
  | .fixedZero idx => Sys2Proof.Machine.execFixedZero idx s
  | .reservedKind kk idx => Sys2Proof.Machine.execReservedKind kk idx s

end Sys2Proof.Machine
end

