-- ==== Sys2Proof/Machine/Step.lean ====
section
/-! DEFINITION. The step: one evaluation of a run (R175, R193), and the placing of a table word where the step fetches
its next instruction. -/

namespace Sys2Proof.Machine

/-- One evaluation. A run whose mark is set has no further evaluation: the step answers the fault that ended it (R24,
R175; log 9). Otherwise the next vector is presented whole and the instruction it selects runs. -/
def step (s : State) : Host.Outcome State Fault Refusal :=
  match s.runFault with
  | some f => .fault f
  | none => exec s.present.fetch s.present

/-- The state with a table word as the selecting word of the vector that is presented next, and the run's mark clear
(a run that has ended fetches nothing). The time fields of that vector and all else stay (log 2). -/
def State.withFetchWord (s : State) (nbits w : Nat) : State :=
  match tableWord nbits w with
  | some word => { s with pending := s.nextInputs.withSelectWord word :: s.pending.tail, runFault := none }
  | none => s

end Sys2Proof.Machine
end

