-- ==== Sys2Proof/Machine/Clock.lean ====
section
/-! DEFINITION. The Next-Whole-Second Clock Function of the environment (R185 to R188). The block does not use it and
no step calls it: it is how the driver finds the second whose fields it presents (R193). -/

namespace Sys2Proof.Machine

/-- A timestamp: whole seconds and a subsecond part in ticks. How many ticks make a second is the open parameter
FRAC_UNIT (R190), an argument of the functions here. -/
structure Timestamp where
  whole : Nat
  ticks : Nat
  deriving DecidableEq, Repr

/-- `next_second(now)`: how long to wait, in ticks, and the next whole second (R185). No answer for a subsecond part
of a second or more, which the source leaves open (R187, log 6). -/
def nextSecond (ticksPerSecond : Nat) (now : Timestamp) : Option (Nat × Timestamp) :=
  if now.ticks < ticksPerSecond then
    some (ticksPerSecond - now.ticks, { whole := now.whole + 1, ticks := 0 })
  else none

end Sys2Proof.Machine
end

