-- ==== Sys2Proof/Safety.lean ====
section
/-! DEFINITION. What counts as a safe run: the caller's contract (R213, R214), a run that has not faulted (R24), and
the coherence of ports and record that every step keeps. -/

namespace Sys2Proof.Machine

variable {c : Config.Widths}

/-- The time fields are in the ranges the source's contract gives them (R213). -/
def Inputs.FieldsInContract (inp : Inputs c) : Prop :=
  inp.hour.toNat ≤ 23 ∧ inp.minute.toNat ≤ 59 ∧ 1 ≤ inp.doy.toNat ∧ inp.doy.toNat ≤ 366
    ∧ inp.year.toNat ≤ 99 ∧ inp.wday.toNat ≤ 6

/-- A vector the caller may present: fields in contract, a second of 0 to 59, and no descriptor driven into the
multiplexer (R213, R214). -/
def Inputs.InContract (inp : Inputs c) : Prop :=
  inp.FieldsInContract ∧ inp.sec.toNat ≤ 59 ∧ inp.inject = none

/-- The run has not faulted (R24, R175). -/
def State.Running (s : State c) : Prop := s.runFault = none

/-- The output ports show what the block answers to the vector on the input ports: the value's outputs if it yields
one, and if it raises a fault that fault's code, whatever the other ports read (R19, R146, R174). -/
def State.PortsCoherent (s : State c) : Prop :=
  match s.inp.result with
  | .ok v => s.out = Outputs.ofValue s.inp.descriptor v
  | .error f => s.out.fault = f.codeAt c.wFault

/-- The run's mark is set exactly when the vector on the input ports faults: the run ended there (R24, R175). -/
def State.MarkCoherent (s : State c) : Prop :=
  match s.inp.result with
  | .ok _ => s.runFault = none
  | .error f => s.runFault = some f

/-- Every recorded pulse has the duration of its value (R144). -/
def State.PulsesCoherent (s : State c) : Prop :=
  ∀ p ∈ s.outcomes, p.durMs.toNat = durationMs p.signal

/-- The invariant of a run. -/
def State.Coherent (s : State c) : Prop := s.PortsCoherent ∧ s.MarkCoherent ∧ s.PulsesCoherent

end Sys2Proof.Machine
end

