-- ==== Sys2Proof/Certificates/Slice0/Obligations.lean ====
section
/-! DEFINITION. The statements for the provers. The helpers under `Sys2Proof.Stated` write a result out in numbers, so
that a statement says what the ports read and leaves every other field of the state as it was. -/

namespace Sys2Proof.Stated

open Sys2Proof.Machine

/-- The data outputs of an evaluation that transmits `v`: its code, its duration, no fault (R56, R144). -/
def reads (o : Outputs) (v : SignalValue) : Prop :=
  o.fault = 0 ∧
  match v with
  | .zero => o.value = 0 ∧ o.durMs = 800
  | .one => o.value = 1 ∧ o.durMs = 500
  | .marker => o.value = 2 ∧ o.durMs = 200

/-- A bit as a signal value. -/
def bitSignal (b : Nat) : SignalValue := if b = 1 then .one else .zero

/-- The bit of weight `w` (1, 2, 4 or 8) in the decimal digit of `n` that counts units of `unit`. -/
def digitBit (n unit w : Nat) : Nat := n / unit % 10 / w % 2

/-- How many of the eight BCD bits of the two low digits of `n` are 1. -/
def bcdOnes (n : Nat) : Nat :=
  digitBit n 1 1 + digitBit n 1 2 + digitBit n 1 4 + digitBit n 1 8
    + digitBit n 10 1 + digitBit n 10 2 + digitBit n 10 4 + digitBit n 10 8

/-- The second `sec` selects the row `i`, which in every state completes: the slot ports show the descriptor `d` and the
data outputs transmit `v` of the inputs. (What else it leaves unchanged is `Obligations.EvaluationFrame`.) -/
def slotSends (sec : Second) (i : Instr) (d : Desc) (v : Inputs → SignalValue) : Prop :=
  decodeWord (.second sec) = i ∧
  ∀ s : State, ∃ t, exec i s = .next t ∧ t.out.slotKind ++ t.out.slotIdx = d ∧ reads t.out (v s.inp)

/-- The descriptor `d` selects the row `i`, which in every state completes: the data outputs transmit `v` of the
inputs. (What else it leaves unchanged is `Obligations.EvaluationFrame`.) -/
def operationSends (d : Desc) (i : Instr) (v : Inputs → SignalValue) : Prop :=
  decodeWord (.descriptor d) = i ∧ ∀ s : State, ∃ t, exec i s = .next t ∧ reads t.out (v s.inp)

/-- The descriptor `d` selects the row `i`, which in every state raises UnexpectedSlot: the next state has the `fault`
port at 2 (R57), and the multiplexer raises it on any time fields with the descriptor. Nothing is said of the other
outputs (R174). -/
def operationRaises (d : Desc) (i : Instr) : Prop :=
  decodeWord (.descriptor d) = i ∧
  (∀ s : State, ∃ t, exec i s = .next t ∧ t.out.fault = 2) ∧
  ∀ f : TimeFields, signalValue d f = .error (.unexpectedSlot (descKind d).toNat (descIdx d).toNat)

/-- Every running run whose next vector has the time fields of `inp` and the second `sec`, presented at the top level,
completes its step without a fault and with `n` on the `value` port. -/
def sends (inp : Inputs) (sec : Second) (n : Nat) : Prop :=
  ∀ s : State, s.runFault = none → s.nextInputs = { inp with sec := sec, inject := none } →
    ∃ t, step s = .next t ∧ t.out.fault = 0 ∧ t.out.value.toNat = n

/-- Two vectors, of whatever widths, present the same numbers: the five fields, and either the same second index at the
top level or the same kind and idx at the multiplexer's interface. -/
def sameNumbers {c c' : Config.Widths} (a : Inputs c) (b : Inputs c') : Prop :=
  a.fields = b.fields ∧
  match a.inject, b.inject with
  | none, none => a.sec.toNat = b.sec.toNat
  | some d, some e =>
    (kindAt c d).toNat = (kindAt c' e).toNat ∧ (idxAt c d).toNat = (idxAt c' e).toNat
  | _, _ => False

/-- The transmitted bit of the `hour` port. -/
def hourBit (unit w : Nat) (inp : Inputs) : SignalValue := bitSignal (digitBit inp.hour.toNat unit w)
/-- The transmitted bit of the `minute` port. -/
def minuteBit (unit w : Nat) (inp : Inputs) : SignalValue := bitSignal (digitBit inp.minute.toNat unit w)
/-- The transmitted bit of the `doy` port. -/
def doyBit (unit w : Nat) (inp : Inputs) : SignalValue := bitSignal (digitBit inp.doy.toNat unit w)
/-- The transmitted bit of the `year` port. -/
def yearBit (unit w : Nat) (inp : Inputs) : SignalValue := bitSignal (digitBit inp.year.toNat unit w)
/-- The transmitted bit of the `wday` port. -/
def wdayBit (unit w : Nat) (inp : Inputs) : SignalValue := bitSignal (digitBit inp.wday.toNat unit w)

end Sys2Proof.Stated

open Sys2Proof Sys2Proof.Machine Sys2Proof.Stated

/-! ### Reset and the invariant -/

/-- O1. The state after power-on. The spec has nothing to reset (R211); that the ports hold zeros and no vector is
pending is the model's choice (log 1), and the outputs are what R212 makes of those inputs. -/
def Obligations.ResetHoldsEncodeOfZeroInputs : Prop :=
  State.reset.inp = { sec := 0, inject := none, hour := 0, minute := 0, doy := 0, year := 0, wday := 0 } ∧
  encodeBlock State.reset.inp.sec State.reset.inp.fields = .ok (.marker, .marker, 200) ∧
  State.reset.out = { slotKind := 0, slotIdx := 0, value := 2, durMs := 200, fault := 0 } ∧
  State.reset.runFault = none ∧ State.reset.outcomes = [] ∧ State.reset.pending = []

/-- O2. The state after power-on is coherent. -/
def Obligations.ResetIsCoherent : Prop := State.reset.Coherent

/-- O3. Every step keeps the coherence of ports, mark and recorded pulses: the output ports are the block's answer to
the vector on the input ports, the mark is set exactly when that answer is a fault, and every pulse has its value's
duration (R19, R24, R144, R174). -/
def Obligations.StepKeepsCoherent : Prop :=
  ∀ s t : State, s.Coherent → step s = .next t → t.Coherent

/-! ### Decoding -/

/-- O4. The decoder and the encoder agree both ways: every instruction with every operand value decodes from its
bytes, with the rest of the text kept, and every selecting word is the word of the one instruction it decodes to. -/
def Obligations.DecodeAndEncodeAgree : Prop :=
  (∀ (i : Instr) (rest : List Byte), decode i.format (encode i ++ rest) = .ok (i, rest)) ∧
  ∀ w : SelectWord, encodeWord (decodeWord w) = w

/-- O5. Words written out from the spec's encodings decode to the instructions they stand for. -/
def Obligations.SpecWordsDecodeRight : Prop :=
  decodeWord (.second 0b000000) = .m ∧ decodeWord (.second 0b000001) = .min40 ∧
  decodeWord (.second 0b001001) = .p1 ∧ decodeWord (.second 0b001100) = .hr20 ∧
  decodeWord (.second 0b010110) = .doy200 ∧ decodeWord (.second 0b100101) = .pa2 ∧
  decodeWord (.second 0b101001) = .yr80 ∧ decodeWord (.second 0b110010) = .wd4 ∧
  decodeWord (.second 0b110101) = .ls1 ∧ decodeWord (.second 0b111110) = .zDefault 0b10 ∧
  decodeWord (.descriptor 0b01001001) = .dayDigit 9 ∧ decodeWord (.descriptor 0b10100110) = .stopAnnounce 6 ∧
  decodeWord (.descriptor 0b11010101) = .reservedKind 0b01 5

/-- O6. An instruction is well formed exactly when its word is: a second index of 0 to 59, or a descriptor that meets
`wf_desc` (R53, R214). -/
def Obligations.WellFormedIsOfTheWord : Prop :=
  ∀ i : Instr, i.wellFormed =
    match encodeWord i with
    | .second sec => wfSecond sec
    | .descriptor d => wfDesc d

/-- O7. `wf_desc` is the predicate of R53, variant by variant; 54 of the 256 descriptors meet it, every descriptor of the
resolver among them, and none of the resolver's is a StopAnnounce. -/
def Obligations.WellFormedDescriptorsAre54 : Prop :=
  (∀ (kind : Kind) (idx : Idx), wfDesc (kind ++ idx) = true ↔
    (kind = 0 ∧ idx = 0) ∨ (kind = 1 ∧ idx ≤ 5) ∨ (kind = 2 ∧ idx ≤ 5) ∨ (kind = 3 ∧ idx ≤ 6) ∨
    (kind = 4 ∧ idx ≤ 9) ∨ (kind = 5 ∧ idx ≤ 7) ∨ (kind = 6 ∧ idx ≤ 2) ∨ (kind = 7 ∧ 1 ≤ idx ∧ idx ≤ 2) ∨
    (kind = 8 ∧ 1 ≤ idx ∧ idx ≤ 2) ∨ (kind = 9 ∧ 1 ≤ idx ∧ idx ≤ 2) ∨ (kind = 10 ∧ 1 ≤ idx ∧ idx ≤ 6) ∨
    (kind = 11 ∧ idx = 0)) ∧
  ((List.range 256).filter fun d => wfDesc (BitVec.ofNat 8 d)).length = 54 ∧
  ∀ sec : Second, wfDesc (slotForSecond sec).descriptor = true ∧ (slotForSecond sec).descriptor.toNat / 16 ≠ 10

/-! ### The step -/

/-- O8. A step of a running run presents the first pending vector (or, with none pending, the vector the ports hold)
and is the meaning of the instruction its selecting word decodes to: the injected descriptor if there is one, else the
second index. -/
def Obligations.StepRunsDecodedInstruction : Prop :=
  ∀ (s : State), s.runFault = none →
    (∀ v rest, s.pending = v :: rest → v.inject = none →
      step s = exec (decodeWord (.second v.sec)) { s with inp := v, pending := rest }) ∧
    (∀ v rest d, s.pending = v :: rest → v.inject = some d →
      step s = exec (decodeWord (.descriptor d)) { s with inp := v, pending := rest }) ∧
    (s.pending = [] → s.inp.inject = none → step s = exec (decodeWord (.second s.inp.sec)) s) ∧
    (∀ d, s.pending = [] → s.inp.inject = some d → step s = exec (decodeWord (.descriptor d)) s)

/-- O9. A run whose mark is set has no further evaluation: its step, and every run of one or more steps from it, answer
the fault of the mark (R24, R175; that the answer is the step's fault is the model's form, log 9). -/
def Obligations.EndedRunHasNoFurtherEvaluation : Prop :=
  ∀ (s : State) (f : Fault), s.runFault = some f →
    step s = .fault f ∧ ∀ n : Nat, Host.Core.run Sys2Proof.core (n + 1) s = .fault f

/-- O10. Every instruction, well formed or not, completes with a next state in every state (R64). -/
def Obligations.EveryInstructionCompletes : Prop :=
  ∀ (i : Instr) (s : State), ∃ t, exec i s = .next t

/-- O11. The frame of every evaluation, of every instruction. One that does not fault changes the output ports and records
one pulse, which is what those ports show; one that faults changes the output ports, sets the run's mark to its fault if
it was clear (a mark that is set stays), moves the model's counter of free values (log 4), and records no pulse.
Everything else, the inputs and the driver's list among it, is as before (R12, R24, R45, R175). -/
def Obligations.EvaluationFrame : Prop :=
  ∀ (i : Instr) (s t : State), exec i s = .next t →
    (t.out.fault = 0 → ∃ v, reads t.out v ∧
      t = { s with out := t.out, outcomes := s.outcomes ++ [{ signal := v, durMs := t.out.durMs }] }) ∧
    (t.out.fault ≠ 0 → ∃ f n, f.code = t.out.fault ∧
      t = { s with out := t.out, runFault := some (s.runFault.getD f), freeCount := n })

/-! ### The operations -/

/-- O12. Marker: the second 0 and a descriptor of kind 0 with any idx transmit Marker, 200 ms, without a fault, in every
state (R132). -/
def Obligations.MarkerTransmitsMarker : Prop :=
  slotSends 0 .m 0x00 (fun _ => .marker) ∧
  ∀ idx : Idx, operationSends (0x0#4 ++ idx) (.marker idx) (fun _ => .marker)

/-- O13. Position: the seconds 9, 19, 29, 39, 49, 59 and a descriptor of kind 1 with any idx transmit Marker, 200 ms,
without a fault, in every state (R133). That the seconds 19 to 49 show the indices 2 to 5 is R104, the spec's decision
D13. -/
def Obligations.PositionTransmitsMarker : Prop :=
  slotSends 9 .p1 0x11 (fun _ => .marker) ∧ slotSends 19 .p2 0x12 (fun _ => .marker) ∧
  slotSends 29 .p3 0x13 (fun _ => .marker) ∧ slotSends 39 .p4 0x14 (fun _ => .marker) ∧
  slotSends 49 .p5 0x15 (fun _ => .marker) ∧ slotSends 59 .p0 0x10 (fun _ => .marker) ∧
  ∀ idx : Idx, operationSends (0x1#4 ++ idx) (.position idx) (fun _ => .marker)

/-- O14. HourDigit: the six hour seconds and a descriptor of kind 2 with any idx transmit the BCD bit of `hour`, in every
state; an idx above 5 reads a bit that is 0 for every 5-bit hour (R134). Which second carries which hour bit is R105,
the spec's decision D14. -/
def Obligations.HourDigitTransmitsBcdBit : Prop :=
  slotSends 12 .hr20 0x25 (hourBit 10 2) ∧
  slotSends 13 .hr10 0x24 (hourBit 10 1) ∧
  slotSends 15 .hr8 0x23 (hourBit 1 8) ∧
  slotSends 16 .hr4 0x22 (hourBit 1 4) ∧
  slotSends 17 .hr2 0x21 (hourBit 1 2) ∧
  slotSends 18 .hr1 0x20 (hourBit 1 1) ∧
  (∀ idx : Idx, operationSends (0x2#4 ++ idx) (.hourDigit idx) (hourBit (10 ^ (idx.toNat / 4)) (2 ^ (idx.toNat % 4)))) ∧
  ∀ idx : Idx, 5 < idx.toNat → operationSends (0x2#4 ++ idx) (.hourDigit idx) (fun _ => .zero)

/-- O15. MinuteDigit: the seven minute seconds and a descriptor of kind 3 with any idx transmit the BCD bit of `minute`, in
every state; an idx above 6 reads a bit that is 0 for every 6-bit minute (R135). -/
def Obligations.MinuteDigitTransmitsBcdBit : Prop :=
  slotSends 1 .min40 0x36 (minuteBit 10 4) ∧
  slotSends 2 .min20 0x35 (minuteBit 10 2) ∧
  slotSends 3 .min10 0x34 (minuteBit 10 1) ∧
  slotSends 5 .min8 0x33 (minuteBit 1 8) ∧
  slotSends 6 .min4 0x32 (minuteBit 1 4) ∧
  slotSends 7 .min2 0x31 (minuteBit 1 2) ∧
  slotSends 8 .min1 0x30 (minuteBit 1 1) ∧
  (∀ idx : Idx, operationSends (0x3#4 ++ idx) (.minuteDigit idx) (minuteBit (10 ^ (idx.toNat / 4)) (2 ^ (idx.toNat % 4)))) ∧
  ∀ idx : Idx, 6 < idx.toNat → operationSends (0x3#4 ++ idx) (.minuteDigit idx) (fun _ => .zero)

/-- O16. DayDigit: the ten day-of-year seconds and a descriptor of kind 4 with any idx transmit the BCD bit of `doy`, the
hundreds digit included, in every state; an idx above 10 reads a bit that is 0 for every 9-bit doy (R136).
Which second carries which bit is R105, the spec's decision D14. -/
def Obligations.DayDigitTransmitsBcdBit : Prop :=
  slotSends 22 .doy200 0x49 (doyBit 100 2) ∧
  slotSends 23 .doy100 0x48 (doyBit 100 1) ∧
  slotSends 25 .doy80 0x47 (doyBit 10 8) ∧
  slotSends 26 .doy40 0x46 (doyBit 10 4) ∧
  slotSends 27 .doy20 0x45 (doyBit 10 2) ∧
  slotSends 28 .doy10 0x44 (doyBit 10 1) ∧
  slotSends 30 .doy8 0x43 (doyBit 1 8) ∧
  slotSends 31 .doy4 0x42 (doyBit 1 4) ∧
  slotSends 32 .doy2 0x41 (doyBit 1 2) ∧
  slotSends 33 .doy1 0x40 (doyBit 1 1) ∧
  (∀ idx : Idx, operationSends (0x4#4 ++ idx) (.dayDigit idx) (doyBit (10 ^ (idx.toNat / 4)) (2 ^ (idx.toNat % 4)))) ∧
  ∀ idx : Idx, 10 < idx.toNat → operationSends (0x4#4 ++ idx) (.dayDigit idx) (fun _ => .zero)

/-- O17. YearDigit: the eight year seconds and a descriptor of kind 5 with any idx transmit the BCD bit of `year`, in every
state and for every 7-bit year, 100 to 127 included, without a fault (R137). Which second carries which bit is R105, the
spec's decision D14. -/
def Obligations.YearDigitTransmitsBcdBit : Prop :=
  slotSends 41 .yr80 0x57 (yearBit 10 8) ∧
  slotSends 42 .yr40 0x56 (yearBit 10 4) ∧
  slotSends 43 .yr20 0x55 (yearBit 10 2) ∧
  slotSends 44 .yr10 0x54 (yearBit 10 1) ∧
  slotSends 45 .yr8 0x53 (yearBit 1 8) ∧
  slotSends 46 .yr4 0x52 (yearBit 1 4) ∧
  slotSends 47 .yr2 0x51 (yearBit 1 2) ∧
  slotSends 48 .yr1 0x50 (yearBit 1 1) ∧
  ∀ idx : Idx, operationSends (0x5#4 ++ idx) (.yearDigit idx) (yearBit (10 ^ (idx.toNat / 4)) (2 ^ (idx.toNat % 4)))

/-- O18. WeekdayDigit: the three day-of-week seconds and a descriptor of kind 6 with any idx transmit the BCD bit of
`wday`, which is its binary bit; an idx above 2 reads a bit that is 0 for every 3-bit wday (R138). Which second carries
which bit is R105, the spec's decision D14. -/
def Obligations.WeekdayDigitTransmitsBinaryBit : Prop :=
  slotSends 50 .wd4 0x62 (fun inp => if inp.wday.getLsbD 2 then .one else .zero) ∧
  slotSends 51 .wd2 0x61 (fun inp => if inp.wday.getLsbD 1 then .one else .zero) ∧
  slotSends 52 .wd1 0x60 (fun inp => if inp.wday.getLsbD 0 then .one else .zero) ∧
  (∀ idx : Idx, operationSends (0x6#4 ++ idx) (.weekdayDigit idx) (wdayBit (10 ^ (idx.toNat / 4)) (2 ^ (idx.toNat % 4)))) ∧
  ∀ idx : Idx, 2 < idx.toNat → operationSends (0x6#4 ++ idx) (.weekdayDigit idx) (fun _ => .zero)

/-- O19. LeapSecondFlag: the seconds 53, 54 and a descriptor of kind 7 with any idx transmit Zero, 800 ms, without a
fault, in every state (R142). -/
def Obligations.LeapSecondTransmitsZero : Prop :=
  slotSends 53 .ls1 0x71 (fun _ => .zero) ∧ slotSends 54 .ls2 0x72 (fun _ => .zero) ∧
  ∀ idx : Idx, operationSends (0x7#4 ++ idx) (.leapSecondFlag idx) (fun _ => .zero)

/-- O20. ParityFlag: index 1 transmits the parity of `hour` and index 2 that of `minute`, at the seconds 36 and 37 and as
descriptors, in every state; any other index raises UnexpectedSlot; the multiplexer raises InvalidArgument with the
selected field when that field is 100 or more, which no port of the default width carries; and the parity is even over
the bits that the in-contract fields transmit (R139; the fault for another index is the spec's decision D12). -/
def Obligations.ParityFlagTransmitsParity : Prop :=
  slotSends 36 .pa1 0x81 (fun inp => bitSignal (bcdOnes inp.hour.toNat % 2)) ∧
  slotSends 37 .pa2 0x82 (fun inp => bitSignal (bcdOnes inp.minute.toNat % 2)) ∧
  operationSends 0x81 (.parityFlag 1) (fun inp => bitSignal (bcdOnes inp.hour.toNat % 2)) ∧
  operationSends 0x82 (.parityFlag 2) (fun inp => bitSignal (bcdOnes inp.minute.toNat % 2)) ∧
  (∀ idx : Idx, idx ≠ 1 → idx ≠ 2 → operationRaises (0x8#4 ++ idx) (.parityFlag idx)) ∧
  (∀ f : TimeFields,
    (100 ≤ f.hour → signalValue 0x81 f = .error (.invalidArgument f.hour)) ∧
    (100 ≤ f.minute → signalValue 0x82 f = .error (.invalidArgument f.minute))) ∧
  (∀ h : Nat, h ≤ 23 → (digitBit h 10 2 + digitBit h 10 1 + digitBit h 1 8 + digitBit h 1 4 + digitBit h 1 2
    + digitBit h 1 1 + bcdOnes h % 2) % 2 = 0) ∧
  ∀ m : Nat, m ≤ 59 → (digitBit m 10 4 + digitBit m 10 2 + digitBit m 10 1 + digitBit m 1 8 + digitBit m 1 4
    + digitBit m 1 2 + digitBit m 1 1 + bcdOnes m % 2) % 2 = 0

/-- O21. Reserved: the seconds 38, 40 and a descriptor of kind 9 with any idx transmit Zero, 800 ms, without a fault, in
every state (R140). That second 38 shows index 1 and second 40 index 2 is R107, the spec's decision D15. -/
def Obligations.ReservedTransmitsZero : Prop :=
  slotSends 38 .su1 0x91 (fun _ => .zero) ∧ slotSends 40 .su2 0x92 (fun _ => .zero) ∧
  ∀ idx : Idx, operationSends (0x9#4 ++ idx) (.reserved idx) (fun _ => .zero)

/-- O22. StopAnnounce raises UnexpectedSlot, always: in every state, for every idx and every time field; and no second
index selects it (R141). -/
def Obligations.StopAnnounceRaisesUnexpectedSlot : Prop :=
  (∀ idx : Idx, operationRaises (0xA#4 ++ idx) (.stopAnnounce idx)) ∧
  ∀ (sec : Second) (idx : Idx), decodeWord (.second sec) ≠ .stopAnnounce idx ∧ slotForSecond sec ≠ .stopAnnounce idx

/-- O23. The reserved kinds 12 to 15 raise UnexpectedSlot, in every state and for every idx (R143, the spec's decision
D12). -/
def Obligations.ReservedKindRaisesUnexpectedSlot : Prop :=
  ∀ (kk : BitVec 2) (idx : Idx), operationRaises (0b11#2 ++ kk ++ idx) (.reservedKind kk idx)

/-- O24. FixedZero: its thirteen seconds, the illegal seconds 60 to 63, and a descriptor of kind 11 with any idx transmit
Zero, 800 ms, without a fault, in every state (R145; that 60 to 63 resolve to FixedZero is the spec's decision D9). -/
def Obligations.FixedZeroTransmitsZero : Prop :=
  (∀ row ∈ [((4 : Second), Instr.z4), (10, .z10), (11, .z11), (14, .z14), (20, .z20), (21, .z21), (24, .z24), (34, .z34),
      (35, .z35), (55, .z55), (56, .z56), (57, .z57), (58, .z58)], slotSends row.1 row.2 0xB0 (fun _ => .zero)) ∧
  (∀ ss : BitVec 2, slotSends (0b1111#4 ++ ss) (.zDefault ss) 0xB0 (fun _ => .zero)) ∧
  ∀ idx : Idx, operationSends (0xB#4 ++ idx) (.fixedZero idx) (fun _ => .zero)

/-! ### The leaf functions -/

/-- O25. `bcd_digit(n, k)` is bit `k mod 4` of the decimal digit of `n` at position `k div 4`: 0 for `n` = 0 and beyond
the last digit, never 1 at bit 3 of a digit together with bit 2 or bit 1, with the rule's examples (R80). -/
def Obligations.BcdDigitReadsDecimalDigits : Prop :=
  (∀ n p b : Nat, b < 4 → bcdDigit n (4 * p + b) = n / 10 ^ p % 10 / 2 ^ b % 2) ∧
  (∀ k, bcdDigit 0 k = 0) ∧
  (∀ n p b : Nat, n < 10 ^ p → b < 4 → bcdDigit n (4 * p + b) = 0) ∧
  (∀ n p : Nat, bcdDigit n (4 * p + 3) = 1 → bcdDigit n (4 * p + 2) = 0 ∧ bcdDigit n (4 * p + 1) = 0) ∧
  bcdDigit 25 5 = 1 ∧ bcdDigit 100 8 = 1

/-- O26. `bcd_digit` is total and yields 0 or 1 for every operand (R81; for bit-indices 10 to 15 by the spec's decision D10). -/
def Obligations.BcdDigitIsABit : Prop :=
  ∀ n k : Nat, bcdDigit n k = 0 ∨ bcdDigit n k = 1

/-- O27. The weights of the bit-indices, and that the weighted BCD bits of a number of at most `m` decimal digits add up
to the number (R82). -/
def Obligations.BcdWeightsAddUpToNumber : Prop :=
  (List.range 16).map weight =
    [1, 2, 4, 8, 10, 20, 40, 80, 100, 200, 400, 800, 1000, 2000, 4000, 8000] ∧
  (∀ k : Nat, weight k = 2 ^ (k % 4) * 10 ^ (k / 4)) ∧
  ∀ m n : Nat, n < 10 ^ m → ((List.range (4 * m)).map fun k => bcdDigit n k * weight k).sum = n

/-- O28. Below 100 `parity` is the exclusive-or of the eight BCD bits, so that the eight bits and the parity hold an even
number of ones; from 100 on it raises InvalidArgument with its operand; the rule's values and the source's (R84). -/
def Obligations.ParityIsXorOfEightBits : Prop :=
  (∀ n : Nat, n < 100 → ∃ b, parity n = .ok b ∧
    b = (bcdDigit n 0 ^^^ bcdDigit n 1 ^^^ bcdDigit n 2 ^^^ bcdDigit n 3
      ^^^ bcdDigit n 4 ^^^ bcdDigit n 5 ^^^ bcdDigit n 6 ^^^ bcdDigit n 7) ∧
    b = bcdOnes n % 2 ∧ (bcdOnes n + b) % 2 = 0) ∧
  (∀ n : Nat, 100 ≤ n → parity n = .error (.invalidArgument n)) ∧
  parity 5 = .ok 0 ∧ parity 7 = .ok 1 ∧ parity 11 = .ok 0 ∧ parity 32 = .ok 1 ∧ parity 0 = .ok 0 ∧ parity 99 = .ok 0

/-- O29. `bit_to_signal`: 0 is Zero, 1 is One, any other number raises InvalidArgument; it never returns Marker, and on
what `bcd_digit` and `parity` yield it never raises (R131). -/
def Obligations.BitToSignalConvertsBits : Prop :=
  bitToSignal 0 = .ok .zero ∧ bitToSignal 1 = .ok .one ∧
  (∀ v : Nat, v ≠ 0 → v ≠ 1 → bitToSignal v = .error (.invalidArgument v)) ∧
  (∀ v : Nat, bitToSignal v ≠ .ok .marker) ∧
  (∀ n k : Nat, ∃ x, bitToSignal (bcdDigit n k) = .ok x) ∧
  ∀ n b : Nat, parity n = .ok b → ∃ x, bitToSignal b = .ok x

/-- O30. The pulse durations in milliseconds; each is shorter than the second, and the port's ten bits carry it (R144;
the unit and the width of the port are the spec's decision D8). -/
def Obligations.DurationsAreFixed : Prop :=
  durationMs .marker = 200 ∧ durationMs .one = 500 ∧ durationMs .zero = 800 ∧
  ∀ v : SignalValue, v.durMs.toNat = durationMs v ∧ durationMs v < 1000

/-- O31. The operand bus keeps the number of each port (R58). -/
def Obligations.OperandBusKeepsPorts : Prop :=
  ∀ inp : Inputs,
    inp.fields.hour = inp.hour.toNat ∧ inp.fields.minute = inp.minute.toNat ∧ inp.fields.doy = inp.doy.toNat ∧
    inp.fields.year = inp.year.toNat ∧ inp.fields.wday = inp.wday.toNat

/-! ### The resolver -/

/-- O32. The frame table of the resolver, second by second, as the descriptors of R101. (The seconds 60 to 63 are the
spec's decision D9: `Obligations.FixedZeroTransmitsZero` and `Obligations.SlotPortsShowDescriptor`.) -/
def Obligations.ResolverIsTheSlotTable : Prop :=
  (List.range 60).map (fun sec => (slotForSecond (BitVec.ofNat 6 sec)).descriptor) =
    [0x00, 0x36, 0x35, 0x34, 0xB0, 0x33, 0x32, 0x31, 0x30, 0x11] ++
    [0xB0, 0xB0, 0x25, 0x24, 0xB0, 0x23, 0x22, 0x21, 0x20, 0x12] ++
    [0xB0, 0xB0, 0x49, 0x48, 0xB0, 0x47, 0x46, 0x45, 0x44, 0x13] ++
    [0x43, 0x42, 0x41, 0x40, 0xB0, 0xB0, 0x81, 0x82, 0x91, 0x14] ++
    [0x92, 0x57, 0x56, 0x55, 0x54, 0x53, 0x52, 0x51, 0x50, 0x15] ++
    [0x62, 0x61, 0x60, 0x71, 0x72, 0xB0, 0xB0, 0xB0, 0xB0, 0x10]

/-- O33. What the resolver returns is always well formed, never a StopAnnounce and never of kind 12 to 15, and its digit
variants have a bit-index of at most 9 (R110). -/
def Obligations.ResolverOutputsAreWellFormed : Prop :=
  ∀ sec : Second, wfDesc (slotForSecond sec).descriptor = true ∧
    (∀ idx : Idx, slotForSecond sec ≠ .stopAnnounce idx) ∧
    (slotForSecond sec).descriptor.toNat / 16 < 12 ∧
    (2 ≤ (slotForSecond sec).descriptor.toNat / 16 → (slotForSecond sec).descriptor.toNat / 16 ≤ 6 →
      (slotForSecond sec).descriptor.toNat % 16 ≤ 9)

/-- O34. FixedZero stands at its thirteen seconds and nowhere else (R109). The census of the table by kind; apart from
FixedZero every entry stands at exactly one second of 0 to 59, and every well-formed payload of every variant but
StopAnnounce occurs (R111). -/
def Obligations.TableCensus : Prop :=
  (∀ sec : Second, sec.toNat ≤ 59 → (slotForSecond sec = .fixedZero ↔
    sec.toNat ∈ [4, 10, 11, 14, 20, 21, 24, 34, 35, 55, 56, 57, 58])) ∧
  ((List.range 12).map fun kind => ((List.range 60).filter fun sec =>
    (slotForSecond (BitVec.ofNat 6 sec)).descriptor.toNat / 16 == kind).length) =
      [1, 6, 6, 7, 10, 8, 3, 2, 2, 2, 0, 13] ∧
  (∀ a b : Second, a.toNat ≤ 59 → b.toNat ≤ 59 → slotForSecond a ≠ .fixedZero →
    slotForSecond a = slotForSecond b → a = b) ∧
  ∀ d : Desc, wfDesc d = true → d.toNat / 16 ≠ 10 →
    ∃ sec : Second, sec.toNat ≤ 59 ∧ (slotForSecond sec).descriptor = d

/-! ### The multiplexer and the composition -/

/-- O35. A descriptor presented at the multiplexer's own interface: the step is `signal_value` of that descriptor and the
vector's fields. A value is driven with its code and duration and recorded; a fault drives its code, records nothing and
ends the run (R24, R130, R174, R175). -/
def Obligations.InjectedStepIsSignalValue : Prop :=
  ∀ (s : State) (d : Desc), s.runFault = none → s.nextInputs.inject = some d →
    ∃ t, step s = .next t ∧ t.inp = s.nextInputs ∧
      match signalValue d s.nextInputs.fields with
      | .ok v => reads t.out v ∧ t.runFault = none ∧ t.outcomes = s.outcomes ++ [{ signal := v, durMs := v.durMs }]
      | .error f => t.out.fault = f.code ∧ t.runFault = some f ∧ t.outcomes = s.outcomes

/-- O36. A vector presented at the top level: with the resolver's slot for its second and the multiplexer's value for that
slot and the vector's fields, which never raises (R147), `encode` is the slot, the value and its duration, and the step drives
exactly these on the five output ports (R146). -/
def Obligations.TopLevelStepIsEncode : Prop :=
  ∀ s : State, s.runFault = none → s.nextInputs.inject = none →
    ∃ v t, signalValue (slotForSecond s.nextInputs.sec).descriptor s.nextInputs.fields = .ok v ∧
      encodeBlock s.nextInputs.sec s.nextInputs.fields = .ok (slotForSecond s.nextInputs.sec, v, durationMs v) ∧
      step s = .next t ∧ t.out.slotKind ++ t.out.slotIdx = (slotForSecond s.nextInputs.sec).descriptor ∧
      reads t.out v ∧ t.out.durMs.toNat = durationMs v

/-- O37. With the default widths the top level never faults, whatever the vector; the faults stay reachable at the
sub-blocks' interfaces, and a wider `hour` or `minute` would reach InvalidArgument from the second index (R147). -/
def Obligations.TopLevelNeverFaults : Prop :=
  (∀ s : State, s.runFault = none → s.nextInputs.inject = none →
    ∃ t, step s = .next t ∧ t.out.fault = 0 ∧ t.runFault = none) ∧
  (∃ (d : Desc) (f : TimeFields), signalValue d f = .error (.unexpectedSlot (descKind d).toNat (descIdx d).toNat)) ∧
  (∀ n : Nat, 100 ≤ n → parity n = .error (.invalidArgument n)) ∧
  ∀ f : TimeFields,
    (100 ≤ f.hour → encodeBlock 36 f = .error (.invalidArgument f.hour)) ∧
    (100 ≤ f.minute → encodeBlock 37 f = .error (.invalidArgument f.minute))

/-- O38. At the top level the `value` port reads Marker exactly at the seconds 0, 9, 19, 29, 39, 49 and 59, and Zero or
One at every other second, 60 to 63 included (R149). -/
def Obligations.MarkerExactlyAtMarkerSeconds : Prop :=
  ∀ s : State, s.runFault = none → s.nextInputs.inject = none →
    ∃ t, step s = .next t ∧
      (t.out.value = 2 ↔ s.nextInputs.sec.toNat ∈ [0, 9, 19, 29, 39, 49, 59]) ∧
      (s.nextInputs.sec.toNat ∉ [0, 9, 19, 29, 39, 49, 59] → t.out.value = 0 ∨ t.out.value = 1)

/-- O39. The constant slots: at their seconds the outputs are the same whatever the time fields, Marker at the seven
marker seconds and Zero at the others (R150). -/
def Obligations.ConstantSlotsIgnoreTimeFields : Prop :=
  ∀ s : State, s.runFault = none → s.nextInputs.inject = none →
    ∃ t, step s = .next t ∧
      (s.nextInputs.sec.toNat ∈ [0, 9, 19, 29, 39, 49, 59] →
        t.out.value = 2 ∧ t.out.durMs = 200 ∧ t.out.fault = 0) ∧
      (s.nextInputs.sec.toNat ∈
          [4, 10, 11, 14, 20, 21, 24, 34, 35, 38, 40, 53, 54, 55, 56, 57, 58, 60, 61, 62, 63] →
        t.out.value = 0 ∧ t.out.durMs = 800 ∧ t.out.fault = 0)

/-- O40. The slot ports depend on the second alone: two runs that present the same second at the top level, with whatever
fields, show the same slot (R116). -/
def Obligations.SlotPortsDependOnSecondOnly : Prop :=
  ∀ s u : State, s.runFault = none → u.runFault = none →
    s.nextInputs.inject = none → u.nextInputs.inject = none → s.nextInputs.sec = u.nextInputs.sec →
    ∃ t w, step s = .next t ∧ step u = .next w ∧
      t.out.slotKind = w.out.slotKind ∧ t.out.slotIdx = w.out.slotIdx

/-- O41. An evaluation has no memory: with equal inputs, two states of any history give the same fault code, and, if it is
0, the same outputs; the same of two steps that present equal vectors (R11). -/
def Obligations.OutcomeDependsOnInputsOnly : Prop :=
  (∀ (i : Instr) (s u : State), s.inp = u.inp →
    ∃ t w, exec i s = .next t ∧ exec i u = .next w ∧
      t.out.fault = w.out.fault ∧ (t.out.fault = 0 → t.out = w.out)) ∧
  ∀ s u : State, s.runFault = none → u.runFault = none → s.nextInputs = u.nextInputs →
    ∃ t w, step s = .next t ∧ step u = .next w ∧
      t.out.fault = w.out.fault ∧ (t.out.fault = 0 → t.out = w.out)

/-- O42. No evaluation puts code 3 on `fault`, and none that does not fault puts 3 on `value`; without a fault the
duration goes with the value (R56, R57, R144). -/
def Obligations.WireCodesAreLegal : Prop :=
  ∀ (i : Instr) (s t : State), exec i s = .next t →
    t.out.fault ≠ 3 ∧
    (t.out.fault = 0 → (t.out.value = 0 ∧ t.out.durMs = 800) ∨ (t.out.value = 1 ∧ t.out.durMs = 500) ∨
      (t.out.value = 2 ∧ t.out.durMs = 200))

/-- O43. Without a fault the slot ports show the descriptor of the instruction: its own word in format D, the table's
`decodes_to` in format S, which is the resolver's for that second (R51, R101; for format D the model's reading, log 5). -/
def Obligations.SlotPortsShowDescriptor : Prop :=
  (∀ (i : Instr) (s t : State), exec i s = .next t → t.out.fault = 0 →
    t.out.slotKind ++ t.out.slotIdx = i.descriptor) ∧
  ∀ sec : Second, (decodeWord (.second sec)).descriptor = (slotForSecond sec).descriptor

/-- O44. ParityFlag tests its index first: with an index other than 1 and 2 the fault is UnexpectedSlot even if a field is
100 or more (R173; that another index raises this fault is the spec's decision D12). -/
def Obligations.ParityIndexIsTestedFirst : Prop :=
  ∀ (f : TimeFields) (idx : Idx), idx ≠ 1 → idx ≠ 2 →
    signalValue (0x8#4 ++ idx) f = .error (.unexpectedSlot 8 idx.toNat)

/-- O45. Retrying with the same input yields the same fault: after an evaluation that faulted, the same instruction faults
with the same code (R176). -/
def Obligations.RetryGivesSameFault : Prop :=
  ∀ (i : Instr) (s t : State), exec i s = .next t → t.out.fault ≠ 0 →
    ∃ u, exec i t = .next u ∧ u.out.fault = t.out.fault

/-! ### Whole minutes and whole runs -/

/-- O46. For every date-time in contract the values sent at the digit seconds of a minute, weighted, add up to the five
fields: no bit is lost and every weight stands at its second (R82, R105, R111; the order of the
hour, day-of-year, year and day-of-week bits is the spec's decision D14). -/
def Obligations.TransmittedBitsDecodeToFields : Prop :=
  ∀ inp : Inputs, inp.FieldsInContract →
    ∃ b : Second → Nat, (∀ sec, sends inp sec (b sec)) ∧
      40 * b 1 + 20 * b 2 + 10 * b 3 + 8 * b 5 + 4 * b 6 + 2 * b 7 + b 8 = inp.minute.toNat ∧
      20 * b 12 + 10 * b 13 + 8 * b 15 + 4 * b 16 + 2 * b 17 + b 18 = inp.hour.toNat ∧
      200 * b 22 + 100 * b 23 + 80 * b 25 + 40 * b 26 + 20 * b 27 + 10 * b 28
        + 8 * b 30 + 4 * b 31 + 2 * b 32 + b 33 = inp.doy.toNat ∧
      80 * b 41 + 40 * b 42 + 20 * b 43 + 10 * b 44 + 8 * b 45 + 4 * b 46 + 2 * b 47 + b 48 = inp.year.toNat ∧
      4 * b 50 + 2 * b 51 + b 52 = inp.wday.toNat

/-- O47. For every in-contract hour and minute the transmitted hour bits with PA1, and the minute bits with PA2, hold an
even number of ones (R86, R139). -/
def Obligations.TransmittedParityIsEven : Prop :=
  ∀ inp : Inputs, inp.FieldsInContract →
    ∃ b : Second → Nat, (∀ sec, sends inp sec (b sec)) ∧
      (b 12 + b 13 + b 15 + b 16 + b 17 + b 18 + b 36) % 2 = 0 ∧
      (b 1 + b 2 + b 3 + b 5 + b 6 + b 7 + b 8 + b 37) % 2 = 0

/-- O48. A run over any list of vectors presented at the top level completes: it evaluates each vector once, in order,
faults nowhere, and records for each the pulse that `encode` gives that vector alone, whatever came before (R11, R39,
R147, R196). -/
def Obligations.TopLevelRunRecordsEachOutcome : Prop :=
  ∀ s : State, s.runFault = none → (∀ v ∈ s.pending, v.inject = none) →
    ∃ (t : State) (pulses : List Pulse),
      Host.Core.run Sys2Proof.core s.pending.length s = .next t ∧
      t.outcomes = s.outcomes ++ pulses ∧ t.runFault = none ∧ t.pending = [] ∧
      List.Forall₂ (fun v p => ∃ x, encodeBlock v.sec v.fields = .ok (slotForSecond v.sec, x, durationMs x) ∧
        p.signal = x ∧ p.durMs.toNat = durationMs x) s.pending pulses

/-- O49. The first faulting evaluation ends the run: the step that presents the vector drives the fault's code, sets the
mark, records no pulse and leaves the rest of the list unpresented, and any longer run from there answers that fault
(R24, R175). That the faulting step answers a next state and a longer run the fault is the model's form (log 9). -/
def Obligations.FirstFaultEndsRun : Prop :=
  ∀ (s : State) (v : Inputs) (rest : List Inputs) (d : Desc) (f : Fault),
    s.runFault = none → s.pending = v :: rest → v.inject = some d → signalValue d v.fields = .error f →
    ∃ t, step s = .next t ∧ t.out.fault = f.code ∧ t.runFault = some f ∧ t.outcomes = s.outcomes ∧
      t.pending = rest ∧ ∀ n : Nat, Host.Core.run Sys2Proof.core (n + 2) s = .fault f

/-! ### The environment's clock function -/

/-- O50. `next_second`: for a subsecond part below one second it answers the rest of the second as the wait, never zero and
never more than a second, and the next whole second; on a whole second the wait is exactly one second; for a nonzero
subsecond part it is less than one second (R185, R186, R188). -/
def Obligations.NextSecondAlwaysAdvances : Prop :=
  ∀ (unit whole ticks : Nat), ticks < unit →
    ∃ wait, nextSecond unit { whole := whole, ticks := ticks } = some (wait, { whole := whole + 1, ticks := 0 }) ∧
      wait + ticks = unit ∧ 0 < wait ∧ wait ≤ unit ∧ (ticks = 0 → wait = unit) ∧ (0 < ticks → wait < unit)

/-! ### Any widths -/

/-- O51. At the default widths the step, which runs the meaning of the opcode table's row, is the composition of the
resolver and the multiplexer that `stepAt` evaluates at any widths (R22, R100, R130, R146; for a descriptor the slot
ports follow the model's reading, log 5). -/
def Obligations.StepIsBlockComposition : Prop :=
  ∀ s : State, step s = stepAt s

/-- O52. The widths only bound which values can be presented: two machines of any legal widths, shown the same numbers,
complete with the same fault code and, if it is 0, the same numbers on the other four output ports (R4, R18).
For an injected descriptor the slot ports follow the model's reading (log 5), and on a kind of 16 or more, which a wider
W_KIND admits, both machines take the model's choice (log 13). -/
def Obligations.WidthsOnlyBoundTheValues : Prop :=
  ∀ (c c' : Config.Widths) (s : State c) (u : State c'), c.Legal → c'.Legal →
    s.runFault = none → u.runFault = none → sameNumbers s.nextInputs u.nextInputs →
    ∃ t w, stepAt s = .next t ∧ stepAt u = .next w ∧ t.out.fault.toNat = w.out.fault.toNat ∧
      (t.out.fault = 0 → t.out.slotKind.toNat = w.out.slotKind.toNat ∧ t.out.slotIdx.toNat = w.out.slotIdx.toNat ∧
        t.out.value.toNat = w.out.value.toNat ∧ t.out.durMs.toNat = w.out.durMs.toNat)

/-- O53. At any legal widths a top-level step faults exactly at the second 36 with an `hour` of 100 or more and at the
second 37 with a `minute` of 100 or more, which ports of 7 bits or more can carry: the fault is InvalidArgument with
that number, code 1, which sets the mark and records no pulse (R4, R24, R85, R139, R147, R174, R175). That the faulting
step answers a next state is the model's form (log 9); a second above 63 of a wider `sec` port resolves to FixedZero
(log 8). -/
def Obligations.WiderPortsReachInvalidArgument : Prop :=
  ∀ (c : Config.Widths) (s : State c), c.Legal → s.runFault = none → s.nextInputs.inject = none →
    ∃ t, stepAt s = .next t ∧
      (s.nextInputs.sec.toNat = 36 → 100 ≤ s.nextInputs.hour.toNat →
        t.out.fault.toNat = 1 ∧ t.runFault = some (.invalidArgument s.nextInputs.hour.toNat) ∧
          t.outcomes = s.outcomes) ∧
      (s.nextInputs.sec.toNat = 37 → 100 ≤ s.nextInputs.minute.toNat →
        t.out.fault.toNat = 1 ∧ t.runFault = some (.invalidArgument s.nextInputs.minute.toNat) ∧
          t.outcomes = s.outcomes) ∧
      (¬ (s.nextInputs.sec.toNat = 36 ∧ 100 ≤ s.nextInputs.hour.toNat) →
        ¬ (s.nextInputs.sec.toNat = 37 ∧ 100 ≤ s.nextInputs.minute.toNat) →
        t.out.fault = 0 ∧ t.runFault = none)
end

