-- ==== Sys2Proof/Laws/Decode.lean ====
section
/-! SUPPORT. The nibbles of a descriptor, and the two formats of the decoder. -/

namespace Sys2Proof

@[simp] theorem descKind_mkDesc (kind : Kind) (idx : Idx) : descKind (mkDesc kind idx) = kind := by
  revert kind idx; decide

@[simp] theorem descIdx_mkDesc (kind : Kind) (idx : Idx) : descIdx (mkDesc kind idx) = idx := by
  revert kind idx; decide

/-- A descriptor is its two nibbles. -/
theorem mkDesc_eta (d : Desc) : mkDesc (descKind d) (descIdx d) = d := by
  revert d; decide

/-- The nibbles as numbers. -/
theorem descKind_toNat (d : Desc) : (descKind d).toNat = d.toNat / 16 := by revert d; decide

theorem descIdx_toNat (d : Desc) : (descIdx d).toNat = d.toNat % 16 := by revert d; decide

/-- The kind and the idx of a descriptor of two fields, at any widths. -/
@[simp] theorem kindAt_append {c : Config.Widths} (kind : BitVec c.wKind) (idx : BitVec c.wBit) :
    kindAt c (kind ++ idx) = kind := by
  simp [kindAt, BitVec.extractLsb'_append_eq_left]

@[simp] theorem idxAt_append {c : Config.Widths} (kind : BitVec c.wKind) (idx : BitVec c.wBit) :
    idxAt c (kind ++ idx) = idx := by
  simp [idxAt, BitVec.extractLsb'_append_eq_right]

theorem FrameSlot.kindCode_lt (slot : FrameSlot) : slot.kindCode < 12 := by
  cases slot <;> simp [FrameSlot.kindCode]

theorem FrameSlot.payload_lt (slot : FrameSlot) : slot.payload < 16 := by
  cases slot <;> first | decide | exact BitVec.isLt _

/-- A kind field of four bits or more carries a slot's kind (R52). -/
theorem kindAt_descriptorAt {c : Config.Widths} (h : 4 ≤ c.wKind) (slot : FrameSlot) :
    (kindAt c (slot.descriptorAt c)).toNat = slot.kindCode := by
  rw [FrameSlot.descriptorAt, kindAt_append, BitVec.toNat_ofNat]
  exact Nat.mod_eq_of_lt (lt_of_lt_of_le (by have := slot.kindCode_lt; omega)
    (Nat.pow_le_pow_right (by decide) h : 2 ^ 4 ≤ _))

/-- An idx field of four bits or more carries a slot's payload (R53). -/
theorem idxAt_descriptorAt {c : Config.Widths} (h : 4 ≤ c.wBit) (slot : FrameSlot) :
    (idxAt c (slot.descriptorAt c)).toNat = slot.payload := by
  rw [FrameSlot.descriptorAt, idxAt_append, BitVec.toNat_ofNat]
  exact Nat.mod_eq_of_lt (lt_of_lt_of_le (by have := slot.payload_lt; omega)
    (Nat.pow_le_pow_right (by decide) h : 2 ^ 4 ≤ _))

theorem descKind_descriptor (slot : FrameSlot) : (descKind slot.descriptor).toNat = slot.kindCode :=
  kindAt_descriptorAt (by decide) slot

theorem descIdx_descriptor (slot : FrameSlot) : (descIdx slot.descriptor).toNat = slot.payload :=
  idxAt_descriptorAt (by decide) slot

/-- A byte in format D is always a word. -/
@[simp] theorem wordOfByte_D (b : Byte) : wordOfByte .D b = .ok (.descriptor b) := rfl

/-- Decoding one byte and leaving the rest. -/
theorem decode_cons {fmt : Format} {b : Byte} {w : SelectWord} (h : wordOfByte fmt b = .ok w) (rest : List Byte) :
    decode fmt (b :: rest) = .ok (decodeWord w, rest) := by
  simp [decode, h]

end Sys2Proof
end

