-- ==== Sys2Proof/Laws/Bits.lean ====
section
/-! SUPPORT. The one-bit functions: what a digit, a parity and their conversions can be; and what the
ports of any legal widths carry. -/

namespace Sys2Proof.Machine

/-- A BCD bit is 0 or 1 (R81). -/
theorem bcdDigit_lt_two (n k : Nat) : bcdDigit n k < 2 := Nat.mod_lt _ (by decide)

/-- The extractor without its local names (R80). -/
theorem bcdDigit_eq (n k : Nat) : bcdDigit n k = n / 10 ^ (k / 4) % 10 / 2 ^ (k % 4) % 2 := rfl

/-- A bit converts to One if it is 1 and to Zero otherwise (R131). -/
theorem bitToSignal_of_lt {b : Nat} (h : b < 2) : bitToSignal b = .ok (if b = 1 then .one else .zero) := by
  obtain rfl | rfl : b = 0 ∨ b = 1 := by omega
  all_goals rfl

/-- A digit variant never faults (R134 to R138). -/
theorem signalDigit_eq (n k : Nat) :
    signalDigit n k = .ok (if bcdDigit n k = 1 then .one else .zero) :=
  bitToSignal_of_lt (bcdDigit_lt_two _ _)

/-- The eight BCD bits that `parity` sums. -/
def bcdBitSum (n : Nat) : Nat :=
  bcdDigit n 0 + bcdDigit n 1 + bcdDigit n 2 + bcdDigit n 3
    + bcdDigit n 4 + bcdDigit n 5 + bcdDigit n 6 + bcdDigit n 7

/-- Below 100 `parity` yields the low bit of the sum (R84). -/
theorem parity_of_lt {n : Nat} (h : n < 100) : parity n = .ok (bcdBitSum n % 2) := by
  simp [parity, bcdBitSum, Nat.not_le.mpr h]

/-- From 100 on `parity` faults with its operand (R85). -/
theorem parity_of_ge {n : Nat} (h : 100 ≤ n) : parity n = .error (.invalidArgument n) := by
  simp [parity, h]

/-- The parity of a field below 100 as a signal value (R139). -/
theorem signalParity_of_lt {n : Nat} (h : n < 100) :
    signalParity n = .ok (if bcdBitSum n % 2 = 1 then .one else .zero) := by
  rw [signalParity, parity_of_lt h]
  exact bitToSignal_of_lt (Nat.mod_lt _ (by decide))

/-- The parity of a field of 100 or more faults (R85). -/
theorem signalParity_of_ge {n : Nat} (h : 100 ≤ n) : signalParity n = .error (.invalidArgument n) := by
  rw [signalParity, parity_of_ge h]

/-- A port no wider than the bus keeps its number (R58). -/
theorem operand_eq {nw w : Nat} (h : w ≤ nw) (port : BitVec w) : operand nw port = port.toNat := by
  rw [operand, BitVec.toNat_setWidth]
  exact Nat.mod_eq_of_lt (lt_of_lt_of_le port.isLt (Nat.pow_le_pow_right (by decide) h))

variable (inp : Inputs)

@[simp] theorem Inputs.fields_hour : inp.fields.hour = inp.hour.toNat := operand_eq (by decide) _
@[simp] theorem Inputs.fields_minute : inp.fields.minute = inp.minute.toNat := operand_eq (by decide) _
@[simp] theorem Inputs.fields_doy : inp.fields.doy = inp.doy.toNat := operand_eq (by decide) _
@[simp] theorem Inputs.fields_year : inp.fields.year = inp.year.toNat := operand_eq (by decide) _
@[simp] theorem Inputs.fields_wday : inp.fields.wday = inp.wday.toNat := operand_eq (by decide) _

/-! The bounds of the ports and of a payload, as literals. -/

theorem Inputs.sec_lt : inp.sec.toNat < 64 := inp.sec.isLt
theorem Inputs.hour_lt : inp.hour.toNat < 32 := inp.hour.isLt
theorem Inputs.minute_lt : inp.minute.toNat < 64 := inp.minute.isLt
theorem Inputs.doy_lt : inp.doy.toNat < 512 := inp.doy.isLt
theorem Inputs.year_lt : inp.year.toNat < 128 := inp.year.isLt
theorem Inputs.wday_lt : inp.wday.toNat < 8 := inp.wday.isLt
theorem idx_lt (idx : Idx) : idx.toNat < 16 := idx.isLt

/-- A descriptor of the opcode table gives the multiplexer its FrameSlot's numbers. -/
theorem signalValue_descriptor (slot : FrameSlot) (f : TimeFields) :
    signalValue slot.descriptor f = signalOf slot.kindCode slot.payload f := by
  rw [signalValue, descKind_descriptor, descIdx_descriptor]

/-- At the opcode table's widths the block's answer is `signal_value` of the descriptor it sees. -/
theorem Inputs.result_eq : inp.result = signalValue inp.descriptor inp.fields := rfl

/-- The parity of the `hour` port: below 100 whatever it holds (R147). -/
theorem Inputs.signalParity_hour :
    signalParity inp.fields.hour = .ok (if bcdBitSum inp.hour.toNat % 2 = 1 then .one else .zero) := by
  rw [fields_hour]
  exact signalParity_of_lt (by have := inp.hour_lt; omega)

/-- The parity of the `minute` port: below 100 whatever it holds (R147). -/
theorem Inputs.signalParity_minute :
    signalParity inp.fields.minute = .ok (if bcdBitSum inp.minute.toNat % 2 = 1 then .one else .zero) := by
  rw [fields_minute]
  exact signalParity_of_lt (by have := inp.minute_lt; omega)

/-- `encode` in the words of the opcode table: the multiplexer on the resolver's descriptor (R146). -/
theorem encodeBlock_eq (sec : Second) (f : TimeFields) :
    encodeBlock sec f = match signalValue (slotForSecond sec).descriptor f with
      | .ok v => .ok (slotForSecond sec, v, durationMs v)
      | .error e => .error e := by
  rw [signalValue_descriptor]
  rfl

/-- The descriptor of a top-level vector and that of an injected one (R22). -/
theorem Inputs.descriptor_of_top (h : inp.inject = none) : inp.descriptor = (slotForSecond inp.sec).descriptor := by
  simp only [Inputs.descriptor, h]
  rfl

theorem Inputs.descriptor_of_inject {d : Desc} (h : inp.inject = some d) : inp.descriptor = d := by
  simp only [Inputs.descriptor, h]

/-! The codes on the ports: at the default widths (the form `simp` leaves), and at other ones. -/

@[simp] theorem SignalValue.codeAt_two (v : SignalValue) : v.codeAt 2 = v.code := rfl
@[simp] theorem SignalValue.durMsAt_ten (v : SignalValue) : v.durMsAt 10 = v.durMs := rfl
@[simp] theorem Fault.codeAt_two (f : Fault) : f.codeAt 2 = f.code := rfl

/-- A number below `2 ^ k` stands unchanged on a port of `k` bits or more. -/
theorem toNat_ofNat_of_lt {n k w : Nat} (hn : n < 2 ^ k) (h : k ≤ w) : (BitVec.ofNat w n).toNat = n := by
  rw [BitVec.toNat_ofNat]
  exact Nat.mod_eq_of_lt (lt_of_lt_of_le hn (Nat.pow_le_pow_right (by decide) h))

/-- A `value` port of two bits or more carries the code (R56). -/
theorem SignalValue.codeAt_toNat {w : Nat} (h : 2 ≤ w) (v : SignalValue) : (v.codeAt w).toNat = v.code.toNat := by
  cases v <;> exact toNat_ofNat_of_lt (k := 2) (by decide) h

/-- A `fault` port of two bits or more carries the code (R57). -/
theorem Fault.codeAt_toNat {w : Nat} (h : 2 ≤ w) (f : Fault) : (f.codeAt w).toNat = f.code.toNat := by
  cases f <;> exact toNat_ofNat_of_lt (k := 2) (by decide) h

/-- A `dur_ms` port of ten bits or more carries the duration (R144). -/
theorem SignalValue.durMsAt_toNat {w : Nat} (h : 10 ≤ w) (v : SignalValue) : (v.durMsAt w).toNat = durationMs v := by
  cases v <;> exact toNat_ofNat_of_lt (k := 10) (by decide) h

/-- At legal widths a top-level vector gives the multiplexer the numbers of the slot of its second (R146). -/
theorem Inputs.result_of_top {c : Config.Widths} (hc : c.Legal) {v : Inputs c} (h : v.inject = none) :
    v.result = signalOf (slotOf v.sec.toNat).kindCode (slotOf v.sec.toNat).payload v.fields := by
  obtain ⟨-, -, -, -, -, -, -, -, hb, hk, -⟩ := hc
  simp only [Inputs.result, Inputs.descriptor, h, kindAt_descriptorAt hk, idxAt_descriptorAt hb]

/-- A raised fault is never code 0, nor the code 3 that nothing produces (R57). -/
theorem Fault.code_cases (f : Fault) : f.code = 1 ∨ f.code = 2 := by
  cases f
  · exact .inl rfl
  · exact .inr rfl

theorem Fault.code_ne_zero (f : Fault) : f.code ≠ 0 := by
  obtain h | h := f.code_cases <;> rw [h] <;> decide

/-- The duration port carries the duration (R144). -/
@[simp] theorem SignalValue.durMs_toNat (v : SignalValue) : v.durMs.toNat = durationMs v := by
  cases v <;> rfl

end Sys2Proof.Machine
end

