-- ==== Sys2Proof/Laws/PerInstr.lean ====
section
/-! SUPPORT. Per-instruction families, one lemma per constructor. -/

namespace Sys2Proof.Laws

/-- A well-formed instruction works on a well-formed descriptor (R53, R110). -/
def Descriptor.Statement (i : Instr) : Prop := i.wellFormed = true → wfDesc i.descriptor = true

theorem Descriptor.m : Descriptor.Statement .m := fun _ => rfl
theorem Descriptor.min40 : Descriptor.Statement .min40 := fun _ => rfl
theorem Descriptor.min20 : Descriptor.Statement .min20 := fun _ => rfl
theorem Descriptor.min10 : Descriptor.Statement .min10 := fun _ => rfl
theorem Descriptor.z4 : Descriptor.Statement .z4 := fun _ => rfl
theorem Descriptor.min8 : Descriptor.Statement .min8 := fun _ => rfl
theorem Descriptor.min4 : Descriptor.Statement .min4 := fun _ => rfl
theorem Descriptor.min2 : Descriptor.Statement .min2 := fun _ => rfl
theorem Descriptor.min1 : Descriptor.Statement .min1 := fun _ => rfl
theorem Descriptor.p1 : Descriptor.Statement .p1 := fun _ => rfl
theorem Descriptor.z10 : Descriptor.Statement .z10 := fun _ => rfl
theorem Descriptor.z11 : Descriptor.Statement .z11 := fun _ => rfl
theorem Descriptor.hr20 : Descriptor.Statement .hr20 := fun _ => rfl
theorem Descriptor.hr10 : Descriptor.Statement .hr10 := fun _ => rfl
theorem Descriptor.z14 : Descriptor.Statement .z14 := fun _ => rfl
theorem Descriptor.hr8 : Descriptor.Statement .hr8 := fun _ => rfl
theorem Descriptor.hr4 : Descriptor.Statement .hr4 := fun _ => rfl
theorem Descriptor.hr2 : Descriptor.Statement .hr2 := fun _ => rfl
theorem Descriptor.hr1 : Descriptor.Statement .hr1 := fun _ => rfl
theorem Descriptor.p2 : Descriptor.Statement .p2 := fun _ => rfl
theorem Descriptor.z20 : Descriptor.Statement .z20 := fun _ => rfl
theorem Descriptor.z21 : Descriptor.Statement .z21 := fun _ => rfl
theorem Descriptor.doy200 : Descriptor.Statement .doy200 := fun _ => rfl
theorem Descriptor.doy100 : Descriptor.Statement .doy100 := fun _ => rfl
theorem Descriptor.z24 : Descriptor.Statement .z24 := fun _ => rfl
theorem Descriptor.doy80 : Descriptor.Statement .doy80 := fun _ => rfl
theorem Descriptor.doy40 : Descriptor.Statement .doy40 := fun _ => rfl
theorem Descriptor.doy20 : Descriptor.Statement .doy20 := fun _ => rfl
theorem Descriptor.doy10 : Descriptor.Statement .doy10 := fun _ => rfl
theorem Descriptor.p3 : Descriptor.Statement .p3 := fun _ => rfl
theorem Descriptor.doy8 : Descriptor.Statement .doy8 := fun _ => rfl
theorem Descriptor.doy4 : Descriptor.Statement .doy4 := fun _ => rfl
theorem Descriptor.doy2 : Descriptor.Statement .doy2 := fun _ => rfl
theorem Descriptor.doy1 : Descriptor.Statement .doy1 := fun _ => rfl
theorem Descriptor.z34 : Descriptor.Statement .z34 := fun _ => rfl
theorem Descriptor.z35 : Descriptor.Statement .z35 := fun _ => rfl
theorem Descriptor.pa1 : Descriptor.Statement .pa1 := fun _ => rfl
theorem Descriptor.pa2 : Descriptor.Statement .pa2 := fun _ => rfl
theorem Descriptor.su1 : Descriptor.Statement .su1 := fun _ => rfl
theorem Descriptor.p4 : Descriptor.Statement .p4 := fun _ => rfl
theorem Descriptor.su2 : Descriptor.Statement .su2 := fun _ => rfl
theorem Descriptor.yr80 : Descriptor.Statement .yr80 := fun _ => rfl
theorem Descriptor.yr40 : Descriptor.Statement .yr40 := fun _ => rfl
theorem Descriptor.yr20 : Descriptor.Statement .yr20 := fun _ => rfl
theorem Descriptor.yr10 : Descriptor.Statement .yr10 := fun _ => rfl
theorem Descriptor.yr8 : Descriptor.Statement .yr8 := fun _ => rfl
theorem Descriptor.yr4 : Descriptor.Statement .yr4 := fun _ => rfl
theorem Descriptor.yr2 : Descriptor.Statement .yr2 := fun _ => rfl
theorem Descriptor.yr1 : Descriptor.Statement .yr1 := fun _ => rfl
theorem Descriptor.p5 : Descriptor.Statement .p5 := fun _ => rfl
theorem Descriptor.wd4 : Descriptor.Statement .wd4 := fun _ => rfl
theorem Descriptor.wd2 : Descriptor.Statement .wd2 := fun _ => rfl
theorem Descriptor.wd1 : Descriptor.Statement .wd1 := fun _ => rfl
theorem Descriptor.ls1 : Descriptor.Statement .ls1 := fun _ => rfl
theorem Descriptor.ls2 : Descriptor.Statement .ls2 := fun _ => rfl
theorem Descriptor.z55 : Descriptor.Statement .z55 := fun _ => rfl
theorem Descriptor.z56 : Descriptor.Statement .z56 := fun _ => rfl
theorem Descriptor.z57 : Descriptor.Statement .z57 := fun _ => rfl
theorem Descriptor.z58 : Descriptor.Statement .z58 := fun _ => rfl
theorem Descriptor.p0 : Descriptor.Statement .p0 := fun _ => rfl
theorem Descriptor.zDefault (ss : BitVec 2) : Descriptor.Statement (.zDefault ss) := nofun
theorem Descriptor.marker (idx : Idx) : Descriptor.Statement (.marker idx) := by
  revert idx; unfold Descriptor.Statement; decide
theorem Descriptor.position (idx : Idx) : Descriptor.Statement (.position idx) := by
  revert idx; unfold Descriptor.Statement; decide
theorem Descriptor.hourDigit (idx : Idx) : Descriptor.Statement (.hourDigit idx) := by
  revert idx; unfold Descriptor.Statement; decide
theorem Descriptor.minuteDigit (idx : Idx) : Descriptor.Statement (.minuteDigit idx) := by
  revert idx; unfold Descriptor.Statement; decide
theorem Descriptor.dayDigit (idx : Idx) : Descriptor.Statement (.dayDigit idx) := by
  revert idx; unfold Descriptor.Statement; decide
theorem Descriptor.yearDigit (idx : Idx) : Descriptor.Statement (.yearDigit idx) := by
  revert idx; unfold Descriptor.Statement; decide
theorem Descriptor.weekdayDigit (idx : Idx) : Descriptor.Statement (.weekdayDigit idx) := by
  revert idx; unfold Descriptor.Statement; decide
theorem Descriptor.leapSecondFlag (idx : Idx) : Descriptor.Statement (.leapSecondFlag idx) := by
  revert idx; unfold Descriptor.Statement; decide
theorem Descriptor.parityFlag (idx : Idx) : Descriptor.Statement (.parityFlag idx) := by
  revert idx; unfold Descriptor.Statement; decide
theorem Descriptor.reserved (idx : Idx) : Descriptor.Statement (.reserved idx) := by
  revert idx; unfold Descriptor.Statement; decide
theorem Descriptor.stopAnnounce (idx : Idx) : Descriptor.Statement (.stopAnnounce idx) := by
  revert idx; unfold Descriptor.Statement; decide
theorem Descriptor.fixedZero (idx : Idx) : Descriptor.Statement (.fixedZero idx) := by
  revert idx; unfold Descriptor.Statement; decide
theorem Descriptor.reservedKind (kk : BitVec 2) (idx : Idx) : Descriptor.Statement (.reservedKind kk idx) := nofun

end Sys2Proof.Laws
end

