-- ==== Sys2Proof/Laws/State.lean ====
section
/-! SUPPORT. One lemma per field of each update of State, true by rfl, so that no proof unfolds an update. -/

namespace Sys2Proof.Machine

variable {c : Config.Widths} (s : State c) (d : DescAt c) (v : SignalValue) (f : Fault)

@[simp] theorem State.emit_inp : (s.emit d v).inp = s.inp := rfl
@[simp] theorem State.emit_out : (s.emit d v).out = Outputs.ofValue d v := rfl
@[simp] theorem State.emit_runFault : (s.emit d v).runFault = s.runFault := rfl
@[simp] theorem State.emit_outcomes :
    (s.emit d v).outcomes = s.outcomes ++ [{ signal := v, durMs := v.durMsAt c.wDur }] := rfl
@[simp] theorem State.emit_pending : (s.emit d v).pending = s.pending := rfl
@[simp] theorem State.emit_freeCount : (s.emit d v).freeCount = s.freeCount := rfl

@[simp] theorem State.raise_inp : (s.raise f).inp = s.inp := rfl
@[simp] theorem State.raise_out : (s.raise f).out = Outputs.ofFault f s.freeCount := rfl
@[simp] theorem State.raise_runFault : (s.raise f).runFault = some (s.runFault.getD f) := rfl
@[simp] theorem State.raise_outcomes : (s.raise f).outcomes = s.outcomes := rfl
@[simp] theorem State.raise_pending : (s.raise f).pending = s.pending := rfl
@[simp] theorem State.raise_freeCount : (s.raise f).freeCount = s.freeCount + 1 := rfl

@[simp] theorem State.present_inp : s.present.inp = s.nextInputs := rfl
@[simp] theorem State.present_out : s.present.out = s.out := rfl
@[simp] theorem State.present_runFault : s.present.runFault = s.runFault := rfl
@[simp] theorem State.present_outcomes : s.present.outcomes = s.outcomes := rfl
@[simp] theorem State.present_pending : s.present.pending = s.pending.tail := rfl
@[simp] theorem State.present_freeCount : s.present.freeCount = s.freeCount := rfl

@[simp] theorem State.settle_ok : s.settle d (.ok v) = s.emit d v := rfl
@[simp] theorem State.settle_error : s.settle d (.error f) = s.raise f := rfl

@[simp] theorem Outputs.ofValue_slotKind : (Outputs.ofValue d v).slotKind = kindAt c d := rfl
@[simp] theorem Outputs.ofValue_slotIdx : (Outputs.ofValue d v).slotIdx = idxAt c d := rfl
@[simp] theorem Outputs.ofValue_value : (Outputs.ofValue d v).value = v.codeAt c.wVal := rfl
@[simp] theorem Outputs.ofValue_durMs : (Outputs.ofValue d v).durMs = v.durMsAt c.wDur := rfl
@[simp] theorem Outputs.ofValue_fault : (Outputs.ofValue d v).fault = 0 := rfl
@[simp] theorem Outputs.ofFault_fault (n : Nat) : (Outputs.ofFault (c := c) f n).fault = f.codeAt c.wFault := rfl

@[simp] theorem State.settle_inp (r : Result) : (s.settle d r).inp = s.inp := by cases r <;> rfl
@[simp] theorem State.settle_pending (r : Result) : (s.settle d r).pending = s.pending := by cases r <;> rfl

/-- `complete` always answers a next state. -/
theorem complete_eq (s : State) (d : Desc) (r : Result) : complete d r s = .next (s.settle d r) := rfl

end Sys2Proof.Machine
end

