-- ==== Sys2Proof/Laws/Step.lean ====
section
/-! SUPPORT. What one evaluation and one step can do, said once. -/

namespace Sys2Proof.Machine

/-- Every instruction settles its own descriptor with some result: the one shape all meanings have. -/
theorem exec_settles (i : Instr) (s : State) : ∃ r, exec i s = .next (s.settle i.descriptor r) := by
  cases i <;> exact ⟨_, rfl⟩

/-- An evaluation either yields a value, recorded as one pulse, or raises a fault; nothing else happens. -/
theorem exec_cases {i : Instr} {s t : State} (h : exec i s = .next t) :
    (∃ v, t = s.emit i.descriptor v) ∨ ∃ f, t = s.raise f := by
  obtain ⟨r, hr⟩ := exec_settles i s
  obtain rfl : s.settle i.descriptor r = t := by simpa [hr] using h
  cases r with
  | ok v => exact .inl ⟨v, rfl⟩
  | error f => exact .inr ⟨f, rfl⟩

/-- A step of a running run is the presented instruction's meaning. -/
theorem step_of_running {s : State} (h : s.runFault = none) : step s = exec s.present.fetch s.present := by
  simp [step, h]

/-- A step of an ended run is its fault. -/
theorem step_of_ended {s : State} {f : Fault} (h : s.runFault = some f) : step s = .fault f := by
  simp [step, h]

/-- At any widths, a step of a running run evaluates the presented vector. -/
theorem stepAt_of_running {c : Config.Widths} {s : State c} (h : s.runFault = none) :
    stepAt s = .next (s.present.settle s.nextInputs.descriptor s.nextInputs.result) := by
  simp [stepAt, h, State.evaluate]

/-- A step that answers a next state belongs to a running run. -/
theorem running_of_step {s t : State} (h : step s = .next t) : s.runFault = none := by
  cases hf : s.runFault with
  | none => rfl
  | some f => simp [step_of_ended hf] at h

/-- A run whose first step answers a next state goes on from there. -/
theorem run_of_next {s t : State} (h : step s = .next t) (n : Nat) :
    Host.Core.run Sys2Proof.core (n + 1) s = Host.Core.run Sys2Proof.core n t := by
  have h' : Sys2Proof.core.step s = .next t := h
  simp only [Host.Core.run, h']

/-- A run whose first step faults ends there. -/
theorem run_of_fault {s : State} {f : Fault} (h : step s = .fault f) (n : Nat) :
    Host.Core.run Sys2Proof.core (n + 1) s = .fault f := by
  have h' : Sys2Proof.core.step s = .fault f := h
  simp only [Host.Core.run, h']

/-- `withFetchWord` places the word where the next step fetches it. -/
theorem withFetchWord_fetch (s : State) (nbits w : Nat) (word : SelectWord) (h : tableWord nbits w = some word) :
    (s.withFetchWord nbits w).present.fetch = decodeWord word := by
  cases word <;> simp [State.withFetchWord, h, State.present, State.fetch, State.nextInputs,
    Inputs.withSelectWord, Inputs.selectWord]

end Sys2Proof.Machine
end

