-- ==== Sys2Proof/Tests/Slice0.lean ====
section
/-! SUPPORT. The model's own tests. Expected results come from spec/95_test_vectors.md and spec/opcode_table.json, as
each test says, never from the model. -/

namespace Sys2Proof.Tests

open Sys2Proof.Machine Sys2Proof.Stated

/-! ## Well-formedness: an ill-formed term for each check of R53 and R59, refused -/

theorem test_wf_second : Instr.wellFormed (.zDefault 0) = false := by decide
theorem test_wf_marker : Instr.wellFormed (.marker 1) = false := by decide
theorem test_wf_position : Instr.wellFormed (.position 6) = false := by decide
theorem test_wf_hour : Instr.wellFormed (.hourDigit 6) = false := by decide
theorem test_wf_minute : Instr.wellFormed (.minuteDigit 7) = false := by decide
theorem test_wf_day : Instr.wellFormed (.dayDigit 10) = false := by decide
theorem test_wf_year : Instr.wellFormed (.yearDigit 8) = false := by decide
theorem test_wf_weekday : Instr.wellFormed (.weekdayDigit 3) = false := by decide
theorem test_wf_leap : Instr.wellFormed (.leapSecondFlag 0) = false ∧ Instr.wellFormed (.leapSecondFlag 3) = false := by
  decide
theorem test_wf_parity : Instr.wellFormed (.parityFlag 0) = false ∧ Instr.wellFormed (.parityFlag 3) = false := by decide
theorem test_wf_reserved : Instr.wellFormed (.reserved 0) = false ∧ Instr.wellFormed (.reserved 3) = false := by decide
theorem test_wf_stop : Instr.wellFormed (.stopAnnounce 0) = false ∧ Instr.wellFormed (.stopAnnounce 7) = false := by decide
theorem test_wf_fixedZero : Instr.wellFormed (.fixedZero 15) = false := by decide
theorem test_wf_reservedKind : Instr.wellFormed (.reservedKind 0 0) = false := by decide
theorem test_wf_accepts : Instr.wellFormed (.dayDigit 9) = true ∧ Instr.wellFormed .p0 = true ∧
    Instr.wellFormed (.stopAnnounce 6) = true := by decide
theorem test_wf_words : wfSecond 59 = true ∧ wfSecond 60 = false ∧ wfDesc 0x49 = true ∧ wfDesc 0x4A = false := by decide

/-! ## Decoding: the `encoding` column of the opcode table, every row -/

theorem test_decode_seconds0 :
    [(0b000000 : Second), 0b000001, 0b000010, 0b000011, 0b000100, 0b000101, 0b000110, 0b000111, 0b001000, 0b001001].map (fun w => decodeWord (.second w)) =
    [.m, .min40, .min20, .min10, .z4, .min8, .min4, .min2, .min1, .p1] := by decide
theorem test_decode_seconds1 :
    [(0b001010 : Second), 0b001011, 0b001100, 0b001101, 0b001110, 0b001111, 0b010000, 0b010001, 0b010010, 0b010011].map (fun w => decodeWord (.second w)) =
    [.z10, .z11, .hr20, .hr10, .z14, .hr8, .hr4, .hr2, .hr1, .p2] := by decide
theorem test_decode_seconds2 :
    [(0b010100 : Second), 0b010101, 0b010110, 0b010111, 0b011000, 0b011001, 0b011010, 0b011011, 0b011100, 0b011101].map (fun w => decodeWord (.second w)) =
    [.z20, .z21, .doy200, .doy100, .z24, .doy80, .doy40, .doy20, .doy10, .p3] := by decide
theorem test_decode_seconds3 :
    [(0b011110 : Second), 0b011111, 0b100000, 0b100001, 0b100010, 0b100011, 0b100100, 0b100101, 0b100110, 0b100111].map (fun w => decodeWord (.second w)) =
    [.doy8, .doy4, .doy2, .doy1, .z34, .z35, .pa1, .pa2, .su1, .p4] := by decide
theorem test_decode_seconds4 :
    [(0b101000 : Second), 0b101001, 0b101010, 0b101011, 0b101100, 0b101101, 0b101110, 0b101111, 0b110000, 0b110001].map (fun w => decodeWord (.second w)) =
    [.su2, .yr80, .yr40, .yr20, .yr10, .yr8, .yr4, .yr2, .yr1, .p5] := by decide
theorem test_decode_seconds5 :
    [(0b110010 : Second), 0b110011, 0b110100, 0b110101, 0b110110, 0b110111, 0b111000, 0b111001, 0b111010, 0b111011].map (fun w => decodeWord (.second w)) =
    [.wd4, .wd2, .wd1, .ls1, .ls2, .z55, .z56, .z57, .z58, .p0] := by decide

theorem test_decode_default :
    [(0b111100 : Second), 0b111101, 0b111110, 0b111111].map (fun w => decodeWord (.second w)) =
    [.zDefault 0, .zDefault 1, .zDefault 2, .zDefault 3] := by decide

theorem test_decode_descriptors :
    [(0b00001111 : Desc), 0b00010001, 0b00100101, 0b00110110, 0b01001001, 0b01010111, 0b01100010, 0b01110001].map
      (fun w => decodeWord (.descriptor w)) =
    [.marker 15, .position 1, .hourDigit 5, .minuteDigit 6, .dayDigit 9, .yearDigit 7, .weekdayDigit 2,
     .leapSecondFlag 1] := by decide

theorem test_decode_descriptors_high :
    [(0b10000010 : Desc), 0b10010010, 0b10100110, 0b10110000, 0b11000000, 0b11010101, 0b11100001, 0b11111111].map
      (fun w => decodeWord (.descriptor w)) =
    [.parityFlag 2, .reserved 2, .stopAnnounce 6, .fixedZero 0, .reservedKind 0 0, .reservedKind 1 5,
     .reservedKind 2 1, .reservedKind 3 15] := by decide

theorem test_decode_rejects :
    decode .S [] = .error .noWord ∧ decode .S [0x40] = .error .tooWideForSec ∧ decode .D [] = .error .noWord := by decide

theorem test_table_words : decodeTableWord 8 0x01 = some .min40 ∧ decodeTableWord 6 0x3C = some (.zDefault 0) ∧
    decodeTableWord 8 0x49 = some (.dayDigit 9) ∧ decodeTableWord 8 0x100 = none := by decide

/-! ## The leaf functions: sections 1, 2.1 and 2.2 of the vectors -/

/-- L1-1, L1-2. -/
theorem test_bcd_100 : (List.range 10).map (bcdDigit 100) = [0, 0, 0, 0, 0, 0, 0, 0, 1, 0] := by decide
/-- The row 1023 of section 2.1. -/
theorem test_bcd_1023 : (List.range 16).map (bcdDigit 1023) = [1, 1, 0, 0, 0, 1, 0, 0, 0, 0, 0, 0, 1, 0, 0, 0] := by decide
/-- L1-3 to L1-6. -/
theorem test_parity_source : [5, 7, 11, 32].map parity = [.ok 0, .ok 1, .ok 0, .ok 1] := by decide
/-- V-Q3, V-Q4. -/
theorem test_parity_faults : parity 100 = .error (.invalidArgument 100) ∧ parity 101 = .error (.invalidArgument 101) := by
  decide
/-- V-F10. -/
theorem test_bitToSignal_two : bitToSignal 2 = .error (.invalidArgument 2) := by decide

/-! ## The top level: whole minutes as functions, and single steps -/

/-- The `value` code `encode` gives for a second, 3 for a fault. -/
def valueCode (f : TimeFields) (sec : Nat) : Nat :=
  match encodeBlock (BitVec.ofNat 6 sec) f with
  | .ok (_, v, _) => v.code.toNat
  | .error _ => 3

/-- L1-7: 2004-04-01 17:25. -/
theorem test_canonical_minute :
    (List.range 60).map (valueCode { hour := 17, minute := 25, doy := 92, year := 4, wday := 4 }) =
    [2,0,1,0,0,0,1,0,1,2] ++ [0,0,0,1,0,0,1,1,1,2] ++ [0,0,0,0,0,1,0,0,1,2] ++ [0,0,1,0,0,0,0,1,0,2] ++
    [0,0,0,0,0,0,1,0,0,2] ++ [1,0,0,0,0,0,0,0,0,2] := by decide

/-- P2 part A: 2000-12-31 23:59. -/
theorem test_year_end_minute :
    (List.range 60).map (valueCode { hour := 23, minute := 59, doy := 366, year := 0, wday := 0 }) =
    [2,1,0,1,0,1,0,0,1,2] ++ [0,0,1,0,0,0,0,1,1,2] ++ [0,0,1,1,0,0,1,1,0,2] ++ [0,1,1,0,0,0,1,0,0,2] ++
    [0,0,0,0,0,0,0,0,0,2] ++ [0,0,0,0,0,0,0,0,0,2] := by decide

/-- P5: every port at its maximum, seconds 0 to 63. -/
theorem test_port_maxima :
    (List.range 64).map (valueCode { hour := 31, minute := 63, doy := 511, year := 127, wday := 7 }) =
    [2,1,1,0,0,0,0,1,1,2] ++ [0,0,1,1,0,0,0,0,1,2] ++ [0,0,0,1,0,0,0,0,1,2] ++ [0,0,0,1,0,0,1,0,0,2] ++
    [0,0,0,1,0,0,1,1,1,2] ++ [1,1,1,0,0,0,0,0,0,2] ++ [0,0,0,0] := by decide

/-- A vector at the top level. -/
def vector (sec : Second) (hour : BitVec 5) (minute : BitVec 6) (doy : BitVec 9) (year : BitVec 7) (wday : BitVec 3) :
    Inputs := { sec, inject := none, hour, minute, doy, year, wday }

/-- A fresh run about to be shown the vectors `vs`. -/
def runOf (vs : List Inputs) : State := { State.reset with pending := vs }

/-- What the ports show after one step: the fault code, and without a fault slot kind, slot idx, value, duration. -/
def ports (s : State) : List Nat :=
  match step s with
  | .next t =>
    if t.out.fault = 0 then
      [0, t.out.slotKind.toNat, t.out.slotIdx.toNat, t.out.value.toNat, t.out.durMs.toNat]
    else [t.out.fault.toNat]
  | _ => []

/-- E-1, E-5, E-7 of section 2.5. -/
theorem test_encode_marker_minute_day :
    ports (runOf [vector 0 17 25 92 4 4]) = [0, 0, 0, 2, 200] ∧
    ports (runOf [vector 2 17 25 92 4 4]) = [0, 3, 5, 1, 500] ∧
    ports (runOf [vector 22 23 59 366 0 0]) = [0, 4, 9, 1, 500] := by decide

/-- E-6, E-9, E-10, E-11 of section 2.5. -/
theorem test_encode_hour_parity_year :
    ports (runOf [vector 13 17 25 92 4 4]) = [0, 2, 4, 1, 500] ∧
    ports (runOf [vector 36 17 25 92 4 4]) = [0, 8, 1, 0, 800] ∧
    ports (runOf [vector 37 17 25 92 4 4]) = [0, 8, 2, 1, 500] ∧
    ports (runOf [vector 46 17 25 92 4 4]) = [0, 5, 2, 1, 500] := by decide

/-- E-12, E-13, E-17 of section 2.5. -/
theorem test_encode_weekday_position_illegal :
    ports (runOf [vector 50 17 25 92 4 4]) = [0, 6, 2, 1, 500] ∧
    ports (runOf [vector 59 17 25 92 4 4]) = [0, 1, 0, 2, 200] ∧
    ports (runOf [vector 63 31 63 511 127 7]) = [0, 11, 0, 0, 800] := by decide

/-! ## The multiplexer's own interface: section 2.4 -/

/-- A fresh run about to be shown the descriptor `d`. -/
def muxRun (d : Desc) (hour : BitVec 5) (minute : BitVec 6) (doy : BitVec 9) (year : BitVec 7) (wday : BitVec 3) : State :=
  runOf [{ vector 0 hour minute doy year wday with inject := some d }]

/-- What the multiplexer's outputs show after one step: fault code, and without a fault value and duration. -/
def muxPorts (s : State) : List Nat :=
  match step s with
  | .next t => if t.out.fault = 0 then [0, t.out.value.toNat, t.out.durMs.toNat] else [t.out.fault.toNat]
  | _ => []

/-- M-3, P-4. -/
theorem test_mux_markers : muxPorts (muxRun 0x0F 17 25 92 4 4) = [0, 2, 200] ∧
    muxPorts (muxRun 0x1F 0 0 1 0 0) = [0, 2, 200] := by decide
/-- H-8, H-9. -/
theorem test_mux_hour : muxPorts (muxRun 0x24 10 0 1 0 0) = [0, 1, 500] ∧
    muxPorts (muxRun 0x23 10 0 1 0 0) = [0, 0, 800] := by decide
/-- N-1, N-3. -/
theorem test_mux_minute : muxPorts (muxRun 0x36 25 25 92 4 4) = [0, 0, 800] ∧
    muxPorts (muxRun 0x36 0 59 1 0 0) = [0, 1, 500] := by decide
/-- D-2, D-13. -/
theorem test_mux_day : muxPorts (muxRun 0x48 0 0 366 0 0) = [0, 1, 500] ∧
    muxPorts (muxRun 0x4A 0 0 511 0 0) = [0, 1, 500] := by decide
/-- Y-7, Y-8. -/
theorem test_mux_year : muxPorts (muxRun 0x55 0 0 1 127 0) = [0, 1, 500] ∧
    muxPorts (muxRun 0x58 0 0 1 127 0) = [0, 1, 500] := by decide
/-- W-1, W-7. -/
theorem test_mux_weekday : muxPorts (muxRun 0x62 0 0 1 0 4) = [0, 1, 500] ∧
    muxPorts (muxRun 0x63 0 0 1 0 7) = [0, 0, 800] := by decide
/-- L-3, S-3, Z-2. -/
theorem test_mux_zeros : muxPorts (muxRun 0x70 0 0 1 0 0) = [0, 0, 800] ∧
    muxPorts (muxRun 0x9F 0 0 1 0 0) = [0, 0, 800] ∧
    muxPorts (muxRun 0xBF 23 59 366 99 6) = [0, 0, 800] := by decide
/-- A-5, A-8. -/
theorem test_mux_parity : muxPorts (muxRun 0x81 23 0 1 0 0) = [0, 1, 500] ∧
    muxPorts (muxRun 0x80 17 25 92 4 4) = [2] := by decide
/-- T-1, K-4. -/
theorem test_mux_faults : muxPorts (muxRun 0xA1 0 0 1 0 0) = [2] ∧
    muxPorts (muxRun 0xFF 23 59 366 99 6) = [2] := by decide

/-! ## Runs, the clock, the table words -/

/-- V-F11: after a faulting step the run has no further evaluation, and no pulse was recorded for it. -/
theorem test_fault_ends_run :
    (match step (muxRun 0xA1 17 25 92 4 4) with
      | .next t => (t.outcomes.length, match step t with | .fault f => some f | _ => none)
      | _ => (1, none)) = (0, some (.unexpectedSlot 10 1)) := by decide

/-- V-T1, V-T2, V-T7, in milliseconds. -/
theorem test_next_second :
    nextSecond 1000 { whole := 12, ticks := 0 } = some (1000, { whole := 13, ticks := 0 }) ∧
    nextSecond 1000 { whole := 12, ticks := 1 } = some (999, { whole := 13, ticks := 0 }) ∧
    nextSecond 1000 { whole := 12, ticks := 1000 } = none := by decide

/-- A table word placed with `withFetchWord` is what the next step runs: MIN40, and the descriptor 0x90 (SU, Zero). -/
theorem test_withFetchWord :
    (State.reset.withFetchWord 8 0x01).present.fetch = .min40 ∧
    (State.reset.withFetchWord 8 0x90).present.fetch = .reserved 0 := by decide

/-! ## Another width: P3c and V-F5 to V-F8 -/

/-- W_HOUR raised from 5 to 7 bits. -/
abbrev wideHour : Config.Widths := { Config.defaults with wHour := 7 }

/-- A fresh run with a 7-bit `hour` of 100, about to be shown the second `sec` or the descriptor `inject`. -/
def wideRun (sec : Second) (inject : Option Desc) : State wideHour :=
  { State.resetAt wideHour with pending := [{ sec, inject, hour := 100, minute := 25, doy := 92, year := 4, wday := 4 }] }

/-- What the ports of `wideRun` show after one step: the fault code, and without a fault value and duration. -/
def widePorts (s : State wideHour) : List Nat :=
  match stepAt s with
  | .next t => if t.out.fault = 0 then [0, t.out.value.toNat, t.out.durMs.toNat] else [t.out.fault.toNat]
  | _ => []

/-- P3c, its steps 1 to 4, each alone. -/
theorem test_wide_top : widePorts (wideRun 12 none) = [0, 0, 800] ∧ widePorts (wideRun 13 none) = [0, 0, 800] ∧
    widePorts (wideRun 18 none) = [0, 0, 800] ∧ widePorts (wideRun 36 none) = [1] := by decide

/-- V-F5 to V-F8. -/
theorem test_wide_mux : widePorts (wideRun 0 (some 0x81)) = [1] ∧ widePorts (wideRun 0 (some 0x83)) = [2] ∧
    widePorts (wideRun 0 (some 0x82)) = [0, 1, 500] ∧ widePorts (wideRun 0 (some 0x25)) = [0, 0, 800] := by decide

/-! ## Witnesses: a concrete state and operands that meet the hypotheses of each statement -/

/-- A run of an in-contract vector at the top level. -/
def topRun : State := runOf [vector 2 17 25 92 4 4]

/-- A run of a descriptor that faults. -/
def faultRun : State := muxRun 0xA1 17 25 92 4 4

/-- A run that has ended. -/
def endedRun : State := { State.reset with runFault := some (.unexpectedSlot 10 1) }

/-- The example date-time's fields are in contract. -/
theorem witness_contract : (vector 2 17 25 92 4 4).InContract := by
  unfold Inputs.InContract Inputs.FieldsInContract; decide

/-- The contract's own bounds are in contract. -/
theorem witness_contract_bounds :
    (vector 0 0 0 1 0 0).FieldsInContract ∧ (vector 59 23 59 366 99 6).FieldsInContract := by
  unfold Inputs.FieldsInContract; decide

theorem witness_StepKeepsCoherent :
    topRun.runFault = none ∧ State.reset.PortsCoherent ∧ State.reset.MarkCoherent ∧ State.reset.PulsesCoherent ∧
      ∃ t, step State.reset = .next t :=
  ⟨rfl, rfl, rfl, (fun _ h => nomatch h), _, rfl⟩

theorem witness_StepRunsDecodedInstruction :
    (topRun.runFault = none ∧ topRun.pending = [vector 2 17 25 92 4 4] ∧ (vector 2 17 25 92 4 4).inject = none) ∧
    (faultRun.runFault = none ∧ faultRun.nextInputs.inject = some 0xA1) ∧
    (State.reset.runFault = none ∧ State.reset.pending = [] ∧ State.reset.inp.inject = none) ∧
    (let s : State := { State.reset with inp := { Inputs.reset with inject := some 0x82 } };
      s.runFault = none ∧ s.pending = [] ∧ s.inp.inject = some 0x82) := by decide

theorem witness_EndedRunHasNoFurtherEvaluation : endedRun.runFault = some (.unexpectedSlot 10 1) := rfl

theorem witness_EvaluationFrame :
    (∃ t, exec .m State.reset = .next t ∧ t.out.fault = 0) ∧
    (∃ t, exec (.stopAnnounce 1) State.reset = .next t ∧ t.out.fault ≠ 0) ∧
    (∃ t, exec (.stopAnnounce 1) endedRun = .next t ∧ t.out.fault ≠ 0) :=
  ⟨⟨_, rfl, rfl⟩, ⟨_, rfl, by decide⟩, ⟨_, rfl, by decide⟩⟩

/-- The first payload past each digit variant's range of nonzero bits. -/
theorem witness_digit_payloads :
    5 < (6 : Idx).toNat ∧ 6 < (7 : Idx).toNat ∧ 10 < (11 : Idx).toNat ∧ 2 < (3 : Idx).toNat := by decide

theorem witness_ParityFlag :
    (0 : Idx) ≠ 1 ∧ (0 : Idx) ≠ 2 ∧ (3 : Idx) ≠ 1 ∧ (3 : Idx) ≠ 2 ∧
      100 ≤ (TimeFields.mk 100 100 1 0 0).hour ∧ 100 ≤ (TimeFields.mk 100 100 1 0 0).minute := by decide

theorem witness_BcdDigit : (25 : Nat) < 10 ^ 2 ∧ (3 : Nat) < 4 ∧ bcdDigit 8 (4 * 0 + 3) = 1 := by decide

theorem witness_Weights : (999 : Nat) < 10 ^ 3 := by decide

theorem witness_Parity : (99 : Nat) < 100 ∧ (100 : Nat) ≤ 100 ∧ parity 7 = .ok 1 ∧ (2 : Nat) ≠ 0 ∧ (2 : Nat) ≠ 1 := by decide

theorem witness_Resolver :
    2 ≤ (slotForSecond 12).descriptor.toNat / 16 ∧ (slotForSecond 50).descriptor.toNat / 16 ≤ 6 ∧
    (59 : Second).toNat ≤ 59 ∧ slotForSecond 59 ≠ .fixedZero ∧ wfDesc 0x49 = true ∧ (0x49 : Desc).toNat / 16 ≠ 10 := by
  decide

theorem witness_InjectedStep :
    (muxRun 0x36 17 25 92 4 4).runFault = none ∧ (muxRun 0x36 17 25 92 4 4).nextInputs.inject = some 0x36 ∧
    signalValue 0x36 (muxRun 0x36 17 25 92 4 4).nextInputs.fields = .ok .zero ∧
    signalValue 0xA1 faultRun.nextInputs.fields = .error (.unexpectedSlot 10 1) := by decide

theorem witness_TopLevel : topRun.runFault = none ∧ topRun.nextInputs.inject = none := by decide

theorem witness_TopLevel_seconds :
    (runOf [vector 59 17 25 92 4 4]).nextInputs.sec.toNat ∈ [0, 9, 19, 29, 39, 49, 59] ∧
    (runOf [vector 60 17 25 92 4 4]).nextInputs.sec.toNat ∉ [0, 9, 19, 29, 39, 49, 59] ∧
    (runOf [vector 63 17 25 92 4 4]).nextInputs.sec.toNat ∈
      [4, 10, 11, 14, 20, 21, 24, 34, 35, 38, 40, 53, 54, 55, 56, 57, 58, 60, 61, 62, 63] := by decide

theorem witness_SameSecond :
    topRun.nextInputs.sec = (runOf [vector 2 0 0 1 0 0]).nextInputs.sec ∧ topRun ≠ runOf [vector 2 0 0 1 0 0] := by decide

/-- Two states of different history with the same inputs. -/
theorem witness_SameInputs : State.reset.inp = endedRun.inp ∧ State.reset ≠ endedRun := by decide

/-- Two running runs of different history that present equal vectors. -/
theorem witness_SamePresented :
    topRun.runFault = none ∧ { topRun with outcomes := [{ signal := .zero, durMs := 800 }] }.runFault = none ∧
    topRun.nextInputs = { topRun with outcomes := [{ signal := .zero, durMs := 800 }] }.nextInputs := by decide

theorem witness_RetryGivesSameFault :
    ∃ t, exec (.parityFlag 3) State.reset = .next t ∧ t.out.fault ≠ 0 := ⟨_, rfl, by decide⟩

theorem witness_TopLevelRun :
    topRun.runFault = none ∧ topRun.pending ≠ [] ∧ ∀ v ∈ topRun.pending, v.inject = none := by decide

theorem witness_FirstFaultEndsRun :
    faultRun.runFault = none ∧
    faultRun.pending = [{ vector 0 17 25 92 4 4 with inject := some 0xA1 }] ∧
    signalValue 0xA1 { vector 0 17 25 92 4 4 with inject := some 0xA1 }.fields = .error (.unexpectedSlot 10 1) := by decide

theorem witness_Widths : Config.defaults.Legal ∧ wideHour.Legal := by decide

/-- The same numbers on ports of different widths, at the top level and at the multiplexer's interface. -/
theorem witness_WidthsOnlyBoundTheValues :
    topRun.runFault = none ∧
    sameNumbers topRun.nextInputs
      ({ sec := 2, inject := none, hour := 17, minute := 25, doy := 92, year := 4, wday := 4 } : Inputs wideHour) ∧
    sameNumbers faultRun.nextInputs
      ({ sec := 5, inject := some 0xA1, hour := 17, minute := 25, doy := 92, year := 4, wday := 4 } : Inputs wideHour) := by
  exact ⟨rfl, ⟨by decide, rfl⟩, by decide, rfl, rfl⟩

/-- Second 36 with an hour of 100 and with one of 99, and second 37 with a minute of 25 and with one of 100, on ports wide
enough. -/
theorem witness_WiderPorts :
    ((wideRun 36 none).runFault = none ∧ (wideRun 36 none).nextInputs.inject = none ∧
      (wideRun 36 none).nextInputs.sec.toNat = 36 ∧ 100 ≤ (wideRun 36 none).nextInputs.hour.toNat) ∧
    (let v : Inputs wideHour := { Inputs.resetAt wideHour with sec := 36, hour := 99 }
     v.inject = none ∧ v.sec.toNat = 36 ∧ ¬ 100 ≤ v.hour.toNat ∧ v.hour.toNat = 99) ∧
    ((wideRun 37 none).nextInputs.sec.toNat = 37 ∧ ¬ 100 ≤ (wideRun 37 none).nextInputs.minute.toNat) ∧
    (let c : Config.Widths := { Config.defaults with wMin := 7 }
     let v : Inputs c := { Inputs.resetAt c with sec := 37, minute := 100 }
     c.Legal ∧ v.inject = none ∧ v.sec.toNat = 37 ∧ 100 ≤ v.minute.toNat) := by decide

theorem witness_NextSecond : (0 : Nat) < 1000 ∧ (999 : Nat) < 1000 := by decide

end Sys2Proof.Tests
end

section
/-! PROOFS. Scope: what the block answers at any legal widths (R4). First what both statements need: the multiplexer on
a slot of the frame, and a step in terms of its result. -/

namespace Sys2Proof.Machine

open Sys2Proof.Stated

variable {c c' : Config.Widths}

/-! ### The multiplexer on the slots of the frame -/

/-- Only ParityFlag and StopAnnounce can raise: every other variant yields a value (R132 to R145). -/
theorem signalOf_slot_ok {slot : FrameSlot} (f : TimeFields) (h8 : slot.kindCode ≠ 8) (h10 : slot.kindCode ≠ 10) :
    ∃ v, signalOf slot.kindCode slot.payload f = .ok v := by
  cases slot with
  | marker | position _ | leapSecondFlag _ | reserved _ | fixedZero => exact ⟨_, rfl⟩
  | hourDigit _ | minuteDigit _ | dayDigit _ | yearDigit _ | weekdayDigit _ => exact ⟨_, signalDigit_eq _ _⟩
  | parityFlag _ => exact absurd rfl h8
  | stopAnnounce _ => exact absurd rfl h10

/-- The frame holds ParityFlag at the seconds 36 and 37 alone, and StopAnnounce nowhere (R101, R106). -/
theorem slotOf_kindCode_ne : ∀ sec < 60, sec ≠ 36 → sec ≠ 37 →
    (slotOf sec).kindCode ≠ 8 ∧ (slotOf sec).kindCode ≠ 10 := by decide

/-- Above the frame's last second the resolver answers FixedZero (R103). -/
theorem slotOf_of_ge {sec : Nat} (h : 60 ≤ sec) : slotOf sec = .fixedZero := by
  rw [slotOf, List.getElem?_eq_none (show slotTable.length ≤ sec from h), Option.getD_none]

/-- At every second but 36 and 37 the multiplexer yields a value, whatever the time fields (R147). -/
theorem signalOf_slotOf_ok {sec : Nat} (f : TimeFields) (h36 : sec ≠ 36) (h37 : sec ≠ 37) :
    ∃ v, signalOf (slotOf sec).kindCode (slotOf sec).payload f = .ok v := by
  by_cases hsec : sec < 60
  · obtain ⟨h8, h10⟩ := slotOf_kindCode_ne sec hsec h36 h37
    exact signalOf_slot_ok f h8 h10
  · rw [slotOf_of_ge (by omega)]
    exact ⟨_, rfl⟩

/-! ### Top-level vectors at legal widths -/

/-- A legal operand bus carries the `hour` port's number (R4, R58). -/
theorem Inputs.fields_hour_of_legal (hc : c.Legal) (v : Inputs c) : v.fields.hour = v.hour.toNat := by
  obtain ⟨-, -, -, -, -, -, -, ⟨hhour, -⟩, -⟩ := hc
  exact operand_eq hhour v.hour

/-- A legal operand bus carries the `minute` port's number (R4, R58). -/
theorem Inputs.fields_minute_of_legal (hc : c.Legal) (v : Inputs c) : v.fields.minute = v.minute.toNat := by
  obtain ⟨-, -, -, -, -, -, -, ⟨-, hminute, -⟩, -⟩ := hc
  exact operand_eq hminute v.minute

/-- At second 36 a top-level vector gets the parity of its hour (R106, R139). -/
theorem Inputs.result_of_sec36 (hc : c.Legal) {v : Inputs c} (htop : v.inject = none) (hsec : v.sec.toNat = 36) :
    v.result = signalParity v.hour.toNat := by
  rw [Inputs.result_of_top hc htop, hsec]
  exact congrArg signalParity (v.fields_hour_of_legal hc)

/-- At second 37 a top-level vector gets the parity of its minute (R106, R139). -/
theorem Inputs.result_of_sec37 (hc : c.Legal) {v : Inputs c} (htop : v.inject = none) (hsec : v.sec.toNat = 37) :
    v.result = signalParity v.minute.toNat := by
  rw [Inputs.result_of_top hc htop, hsec]
  exact congrArg signalParity (v.fields_minute_of_legal hc)

/-- A top-level vector yields a value unless its second takes the parity of a field of 100 or more (R85, R147). -/
theorem Inputs.result_ok_of_top (hc : c.Legal) {v : Inputs c} (htop : v.inject = none)
    (hhour : ¬ (v.sec.toNat = 36 ∧ 100 ≤ v.hour.toNat)) (hminute : ¬ (v.sec.toNat = 37 ∧ 100 ≤ v.minute.toNat)) :
    ∃ x, v.result = .ok x := by
  by_cases h36 : v.sec.toNat = 36
  · rw [Inputs.result_of_sec36 hc htop h36]
    exact ⟨_, signalParity_of_lt (by omega)⟩
  by_cases h37 : v.sec.toNat = 37
  · rw [Inputs.result_of_sec37 hc htop h37]
    exact ⟨_, signalParity_of_lt (by omega)⟩
  rw [Inputs.result_of_top hc htop]
  exact signalOf_slotOf_ok v.fields h36 h37

/-! ### A step by its result -/

/-- A step whose vector yields a value drives it and records it. -/
theorem stepAt_of_ok {s : State c} {v : SignalValue} (hs : s.runFault = none) (h : s.nextInputs.result = .ok v) :
    stepAt s = .next (s.present.emit s.nextInputs.descriptor v) := by
  rw [stepAt_of_running hs, h, State.settle_ok]

/-- A step whose vector raises a fault takes that fault. -/
theorem stepAt_of_error {s : State c} {f : Fault} (hs : s.runFault = none) (h : s.nextInputs.result = .error f) :
    stepAt s = .next (s.present.raise f) := by
  rw [stepAt_of_running hs, h, State.settle_error]

/-- Taking InvalidArgument in a running run: code 1, the mark set to that fault, no pulse (R170, R174, R175). -/
theorem State.raise_invalidArgument (hc : c.Legal) {s : State c} (hs : s.runFault = none) (n : Nat) :
    (s.present.raise (.invalidArgument n)).out.fault.toNat = 1 ∧
      (s.present.raise (.invalidArgument n)).runFault = some (.invalidArgument n) ∧
      (s.present.raise (.invalidArgument n)).outcomes = s.outcomes := by
  obtain ⟨-, -, -, -, -, -, -, -, -, -, -, -, hfault⟩ := hc
  refine ⟨?_, by simp [hs], rfl⟩
  rw [State.raise_out, Outputs.ofFault_fault, Fault.codeAt_toNat hfault]
  rfl

/-- A `fault` port of two bits or more never reads 0 under a fault (R57). -/
theorem Fault.codeAt_ne_zero {w : Nat} (h : 2 ≤ w) (f : Fault) : f.codeAt w ≠ 0 := by
  intro h0
  have hcode : f.code.toNat = 0 := by rw [← Fault.codeAt_toNat h, h0]; simp
  exact f.code_ne_zero (BitVec.eq_of_toNat_eq hcode)

/-! ### The same numbers at two choices of the widths -/

/-- Vectors of the same numbers give the multiplexer the same kind and idx: the resolver's from equal seconds, which
legal widths carry unchanged, or the injected ones (R22, R100). -/
theorem Inputs.descriptor_of_sameNumbers (hc : c.Legal) (hc' : c'.Legal) {a : Inputs c} {b : Inputs c'}
    (h : sameNumbers a b) :
    (kindAt c a.descriptor).toNat = (kindAt c' b.descriptor).toNat ∧
      (idxAt c a.descriptor).toNat = (idxAt c' b.descriptor).toNat := by
  obtain ⟨-, -, -, -, -, -, -, -, hbit, hkind, -⟩ := hc
  obtain ⟨-, -, -, -, -, -, -, -, hbit', hkind', -⟩ := hc'
  obtain ⟨-, hsel⟩ := h
  cases ha : a.inject with
  | none =>
    cases hb : b.inject with
    | none =>
      have hsec : a.sec.toNat = b.sec.toNat := by simpa [ha, hb] using hsel
      simp [Inputs.descriptor, ha, hb, hsec, kindAt_descriptorAt, idxAt_descriptorAt, hkind, hkind', hbit, hbit']
    | some e => simp [ha, hb] at hsel
  | some d =>
    cases hb : b.inject with
    | none => simp [ha, hb] at hsel
    | some e => simpa [Inputs.descriptor, ha, hb] using hsel

/-- Vectors of the same numbers have the same result (R4). -/
theorem Inputs.result_of_sameNumbers (hc : c.Legal) (hc' : c'.Legal) {a : Inputs c} {b : Inputs c'}
    (h : sameNumbers a b) : a.result = b.result := by
  obtain ⟨hkind, hidx⟩ := Inputs.descriptor_of_sameNumbers hc hc' h
  obtain ⟨hfields, -⟩ := h
  rw [Inputs.result, Inputs.result, hkind, hidx, hfields]

/-! ### The two statements -/

/-- Settles O52. The two vectors have one result; its value or its fault reads the same on any ports wide enough. -/
theorem widthsOnlyBoundTheValues : Obligations.WidthsOnlyBoundTheValues := by
  intro c c' s u hc hc' hs hu hsame
  obtain ⟨hkind, hidx⟩ := Inputs.descriptor_of_sameNumbers hc hc' hsame
  have hresult := Inputs.result_of_sameNumbers hc hc' hsame
  obtain ⟨-, -, -, -, -, -, -, -, -, -, hval, hdur, hfault⟩ := hc
  obtain ⟨-, -, -, -, -, -, -, -, -, -, hval', hdur', hfault'⟩ := hc'
  cases hr : u.nextInputs.result with
  | ok v =>
    refine ⟨_, _, stepAt_of_ok hs (hresult.trans hr), stepAt_of_ok hu hr, by simp, fun _ => ⟨hkind, hidx, ?_, ?_⟩⟩
    · simp only [State.emit_out, Outputs.ofValue_value, SignalValue.codeAt_toNat hval, SignalValue.codeAt_toNat hval']
    · simp only [State.emit_out, Outputs.ofValue_durMs, SignalValue.durMsAt_toNat hdur,
        SignalValue.durMsAt_toNat hdur']
  | error f =>
    refine ⟨_, _, stepAt_of_error hs (hresult.trans hr), stepAt_of_error hu hr, ?_,
      fun h0 => absurd h0 (f.codeAt_ne_zero hfault)⟩
    simp only [State.raise_out, Outputs.ofFault_fault, Fault.codeAt_toNat hfault, Fault.codeAt_toNat hfault']

/-- Settles O53, by the three cases of a top-level vector: the hour's parity out of range, the minute's, or neither. -/
theorem widerPortsReachInvalidArgument : Obligations.WiderPortsReachInvalidArgument := by
  intro c s hc hs htop
  by_cases hhour : s.nextInputs.sec.toNat = 36 ∧ 100 ≤ s.nextInputs.hour.toNat
  · obtain ⟨hsec, hge⟩ := hhour
    have hresult := (Inputs.result_of_sec36 hc htop hsec).trans (signalParity_of_ge hge)
    exact ⟨_, stepAt_of_error hs hresult, fun _ _ => State.raise_invalidArgument hc hs _,
      fun h37 => by omega, fun hnot => absurd ⟨hsec, hge⟩ hnot⟩
  by_cases hminute : s.nextInputs.sec.toNat = 37 ∧ 100 ≤ s.nextInputs.minute.toNat
  · obtain ⟨hsec, hge⟩ := hminute
    have hresult := (Inputs.result_of_sec37 hc htop hsec).trans (signalParity_of_ge hge)
    exact ⟨_, stepAt_of_error hs hresult, fun h36 => by omega,
      fun _ _ => State.raise_invalidArgument hc hs _, fun _ hnot => absurd ⟨hsec, hge⟩ hnot⟩
  obtain ⟨x, hresult⟩ := Inputs.result_ok_of_top hc htop hhour hminute
  exact ⟨_, stepAt_of_ok hs hresult, fun h36 hge => absurd ⟨h36, hge⟩ hhour,
    fun h37 hge => absurd ⟨h37, hge⟩ hminute, fun _ _ => ⟨rfl, hs⟩⟩

end Sys2Proof.Machine
end

section
/-! PROOFS. Scope: the state and its run (10_state.md). The shared facts first: every row's meaning is `signal_value` of
its descriptor, and at the default widths a step settles the presented vector's descriptor with that vector's result. -/

namespace Sys2Proof.Machine

open Sys2Proof.Stated

/-! ### The rows of the opcode table and the multiplexer -/

theorem signalValue_mkDesc (kind : Kind) (idx : Idx) (f : TimeFields) :
    signalValue (mkDesc kind idx) f = signalOf kind.toNat idx.toNat f := by
  rw [signalValue, descKind_mkDesc, descIdx_mkDesc]

/-- Kinds 12 to 15, binary 11kk, all take the multiplexer's last arm (R143). -/
theorem signalOf_reservedKind (kk : BitVec 2) (idx : Nat) (f : TimeFields) :
    signalOf (0b11#2 ++ kk).toNat idx f = signalReservedKind (0b11#2 ++ kk).toNat idx := by
  obtain rfl | rfl | rfl | rfl : kk = 0 ∨ kk = 1 ∨ kk = 2 ∨ kk = 3 := by revert kk; decide
  all_goals rfl

/-- Every row's meaning settles its own descriptor with `signal_value` of it: `exec_settles` with the result named. A
row of format S has a literal descriptor; one of format D gives its kind and payload to the multiplexer (R130). -/
theorem exec_eq (i : Instr) (s : State) :
    exec i s = .next (s.settle i.descriptor (signalValue i.descriptor s.inp.fields)) := by
  cases i
  case marker idx | position idx | hourDigit idx | minuteDigit idx | dayDigit idx | yearDigit idx | weekdayDigit idx
      | leapSecondFlag idx | parityFlag idx | reserved idx | stopAnnounce idx | fixedZero idx =>
    rw [Instr.descriptor, signalValue_mkDesc]
    rfl
  case zDefault _ =>
    rw [Instr.descriptor]
    rfl
  case reservedKind kk idx =>
    rw [Instr.descriptor, signalValue_mkDesc, signalOf_reservedKind]
    rfl
  all_goals rfl

/-! ### The instruction a vector selects -/

/-- The row a second index selects works on the resolver's descriptor for it (R101, R103). -/
theorem descriptor_decodeSecond : ∀ sec : Second, (decodeSecond sec).descriptor = (slotForSecond sec).descriptor := by
  decide

/-- The row a descriptor selects works on that descriptor (R52, R60). -/
theorem descriptor_decodeDescriptor : ∀ d : Desc, (decodeDescriptor d).descriptor = d := by decide

theorem Inputs.selectWord_of_top {v : Inputs} (h : v.inject = none) : v.selectWord = .second v.sec := by
  rw [Inputs.selectWord, h]

theorem Inputs.selectWord_of_inject {v : Inputs} {d : Desc} (h : v.inject = some d) : v.selectWord = .descriptor d := by
  rw [Inputs.selectWord, h]

/-- The fetched row works on the descriptor the multiplexer sees for the vector on the ports (R22, R146). -/
theorem State.descriptor_fetch (s : State) : s.fetch.descriptor = s.inp.descriptor := by
  cases h : s.inp.inject with
  | none =>
    rw [State.fetch, Inputs.selectWord_of_top h, Inputs.descriptor_of_top _ h]
    exact descriptor_decodeSecond s.inp.sec
  | some d =>
    rw [State.fetch, Inputs.selectWord_of_inject h, Inputs.descriptor_of_inject _ h]
    exact descriptor_decodeDescriptor d

/-! ### The presented vector -/

section Presented

variable {c : Config.Widths} {s : State c}

theorem State.nextInputs_of_cons {v : Inputs c} {rest : List (Inputs c)} (h : s.pending = v :: rest) :
    s.nextInputs = v := by
  rw [State.nextInputs, h, List.headD_cons]

theorem State.present_of_cons {v : Inputs c} {rest : List (Inputs c)} (h : s.pending = v :: rest) :
    s.present = { s with inp := v, pending := rest } := by
  rw [State.present, State.nextInputs_of_cons h, h, List.tail_cons]

/-- With nothing pending the ports keep their vector (R195). -/
theorem State.present_of_nil (h : s.pending = []) : s.present = s := by
  rw [State.present, State.nextInputs, h, List.headD_nil, List.tail_nil, ← h]

end Presented

/-! ### The step -/

/-- Settles O51. The fetched row's descriptor is the vector's own, and the row's result is the multiplexer's on it. -/
theorem stepIsBlockComposition : Obligations.StepIsBlockComposition := by
  intro s
  cases h : s.runFault with
  | some f => rw [step_of_ended h, stepAt, h]
  | none =>
    rw [step_of_running h, stepAt_of_running h, exec_eq, State.descriptor_fetch, State.present_inp, Inputs.result_eq]

theorem step_eq_stepAt (s : State) : step s = stepAt s := stepIsBlockComposition s

/-- A step whose vector yields a value drives it and records it. -/
theorem step_of_ok {s : State} {v : SignalValue} (hs : s.runFault = none) (h : s.nextInputs.result = .ok v) :
    step s = .next (s.present.emit s.nextInputs.descriptor v) :=
  (step_eq_stepAt s).trans (stepAt_of_ok hs h)

/-- A step whose vector raises a fault takes that fault. -/
theorem step_of_error {s : State} {f : Fault} (hs : s.runFault = none) (h : s.nextInputs.result = .error f) :
    step s = .next (s.present.raise f) :=
  (step_eq_stepAt s).trans (stepAt_of_error hs h)

/-- Settles O8, by whether a vector is pending and whether it carries a descriptor. -/
theorem stepRunsDecodedInstruction : Obligations.StepRunsDecodedInstruction := by
  intro s hs
  rw [step_of_running hs, State.fetch]
  refine ⟨fun v rest hp hv => ?_, fun v rest d hp hv => ?_, fun hp hv => ?_, fun d hp hv => ?_⟩
  · rw [State.present_of_cons hp, Inputs.selectWord_of_top hv]
  · rw [State.present_of_cons hp, Inputs.selectWord_of_inject hv]
  · rw [State.present_of_nil hp, Inputs.selectWord_of_top hv]
  · rw [State.present_of_nil hp, Inputs.selectWord_of_inject hv]

/-- Settles O9. The first step of the run answers the mark's fault. -/
theorem endedRunHasNoFurtherEvaluation : Obligations.EndedRunHasNoFurtherEvaluation :=
  fun _ _ hs => ⟨step_of_ended hs, run_of_fault (step_of_ended hs)⟩

/-! ### Coherence -/

section Coherence

variable {c : Config.Widths} {s : State c}

/-- A recorded pulse has its value's duration on a `dur_ms` port of ten bits or more (R144). -/
theorem State.PulsesCoherent.emit (hdur : 10 ≤ c.wDur) (h : s.PulsesCoherent) (d : DescAt c) (v : SignalValue) :
    (s.emit d v).PulsesCoherent := by
  intro p hp
  rw [State.emit_outcomes, List.mem_append, List.mem_singleton] at hp
  obtain hold | rfl := hp
  · exact h p hold
  · exact SignalValue.durMsAt_toNat hdur v

/-- In a running run whose pulses are coherent, an evaluation of the vector on the ports makes the whole state coherent,
whatever the output ports held before. -/
theorem State.evaluate_coherent (hdur : 10 ≤ c.wDur) (hs : s.runFault = none) (hp : s.PulsesCoherent) :
    s.evaluate.Coherent := by
  rw [State.evaluate]
  cases hr : s.inp.result with
  | ok v =>
    refine ⟨?_, ?_, hp.emit hdur _ v⟩
    · simp [State.PortsCoherent, hr]
    · simp [State.MarkCoherent, hr, hs]
  | error f =>
    refine ⟨?_, ?_, hp⟩
    · simp [State.PortsCoherent, hr]
    · simp [State.MarkCoherent, hr, hs]

end Coherence

/-- Settles O2. The reset ports are the outputs of Marker for the zero inputs. -/
theorem resetIsCoherent : Obligations.ResetIsCoherent := ⟨rfl, rfl, nofun⟩

/-- Settles O3. The step is an evaluation of the presented vector, and presenting leaves the recorded pulses. -/
theorem stepKeepsCoherent : Obligations.StepKeepsCoherent := by
  intro s t ⟨_, _, hpulses⟩ hstep
  have hs := running_of_step hstep
  obtain rfl : s.present.evaluate = t := by simpa [step_eq_stepAt, stepAt, hs] using hstep
  exact State.evaluate_coherent (by decide) hs hpulses

/-! ### One evaluation -/

/-- The outputs of a value transmit it (R56, R144). -/
theorem reads_ofValue (d : Desc) (v : SignalValue) : reads (Outputs.ofValue d v) v := by
  cases v <;> exact ⟨rfl, rfl, rfl⟩

/-- Settles O11. An evaluation emits a value or raises a fault, and the code on the port tells which. -/
theorem evaluationFrame : Obligations.EvaluationFrame := by
  intro i s t h
  obtain ⟨v, rfl⟩ | ⟨f, rfl⟩ := exec_cases h
  · exact ⟨fun _ => ⟨v, reads_ofValue _ v, rfl⟩, fun hne => absurd rfl hne⟩
  · exact ⟨fun h0 => absurd h0 f.code_ne_zero, fun _ => ⟨f, s.freeCount + 1, rfl, rfl⟩⟩

/-- Settling one descriptor with one result gives the same outcome in any two states (R11). -/
theorem State.settle_outcome (s u : State) (d : Desc) (r : Result) :
    (s.settle d r).out.fault = (u.settle d r).out.fault ∧
      ((s.settle d r).out.fault = 0 → (s.settle d r).out = (u.settle d r).out) := by
  cases r with
  | ok v => exact ⟨rfl, fun _ => rfl⟩
  | error f => exact ⟨rfl, fun h0 => absurd h0 f.code_ne_zero⟩

/-- Settles O41. The descriptor and the result settled are functions of the instruction and the inputs. -/
theorem outcomeDependsOnInputsOnly : Obligations.OutcomeDependsOnInputsOnly := by
  refine ⟨fun i s u hinp => ?_, fun s u hs hu hnext => ?_⟩
  · refine ⟨_, _, exec_eq i s, exec_eq i u, ?_⟩
    rw [hinp]
    exact State.settle_outcome s u _ _
  · rw [step_eq_stepAt, step_eq_stepAt]
    refine ⟨_, _, stepAt_of_running hs, stepAt_of_running hu, ?_⟩
    rw [hnext]
    exact State.settle_outcome s.present u.present _ _

/-! ### A descriptor at the multiplexer's own interface -/

/-- The block's answer to an injected descriptor is `signal_value` of it (R22, R130). -/
theorem Inputs.result_of_inject {v : Inputs} {d : Desc} (h : v.inject = some d) :
    v.result = signalValue d v.fields := by
  rw [Inputs.result_eq, Inputs.descriptor_of_inject _ h]

/-- Settles O35, by what `signal_value` answers. -/
theorem injectedStepIsSignalValue : Obligations.InjectedStepIsSignalValue := by
  intro s d hs hinj
  have hresult := Inputs.result_of_inject hinj
  cases hv : signalValue d s.nextInputs.fields with
  | ok v => exact ⟨_, step_of_ok hs (hresult.trans hv), rfl, reads_ofValue _ v, hs, rfl⟩
  | error f => exact ⟨_, step_of_error hs (hresult.trans hv), rfl, rfl, by simp [hs], rfl⟩

/-- Settles O49. The step takes the fault, and the next one finds the mark set. -/
theorem firstFaultEndsRun : Obligations.FirstFaultEndsRun := by
  intro s v rest d f hs hp hinj hf
  have hnext := State.nextInputs_of_cons hp
  have hstep : step s = .next (s.present.raise f) :=
    step_of_error hs (by rw [hnext, Inputs.result_of_inject hinj, hf])
  have hmark : (s.present.raise f).runFault = some f := by simp [hs]
  refine ⟨_, hstep, rfl, hmark, rfl, by simp [hp], fun n => ?_⟩
  rw [run_of_next hstep]
  exact run_of_fault (step_of_ended hmark) n

/-! ### A run of top-level vectors -/

/-- At the default widths a top-level vector yields a value (R147). -/
theorem Inputs.result_ok_of_top_defaults {v : Inputs} (h : v.inject = none) : ∃ x, v.result = .ok x :=
  Inputs.result_ok_of_top (by decide) h (by have := v.hour_lt; omega) (by have := v.minute_lt; omega)

/-- `encode` of a top-level vector is its slot, its value and that value's duration (R146). -/
theorem Inputs.encodeBlock_of_result {v : Inputs} {x : SignalValue} (h : v.inject = none) (hx : v.result = .ok x) :
    encodeBlock v.sec v.fields = .ok (slotForSecond v.sec, x, durationMs x) := by
  rw [Inputs.result_eq, Inputs.descriptor_of_top _ h] at hx
  rw [encodeBlock_eq, hx]

/-- Settles O48, by induction on the pending list: one step records the first vector's pulse and leaves the tail. -/
theorem topLevelRunRecordsEachOutcome : Obligations.TopLevelRunRecordsEachOutcome := by
  intro s hs htop
  induction hp : s.pending generalizing s with
  | nil => exact ⟨s, [], rfl, by simp, hs, hp, .nil⟩
  | cons v rest ih =>
    rw [hp, List.forall_mem_cons] at htop
    obtain ⟨hv, hrest⟩ := htop
    obtain ⟨x, hx⟩ := Inputs.result_ok_of_top_defaults hv
    have hstep := step_of_ok hs ((congrArg Inputs.result (State.nextInputs_of_cons hp)).trans hx)
    have hpend : (s.present.emit s.nextInputs.descriptor x).pending = rest := by simp [hp]
    obtain ⟨t, pulses, hrun, hout, hmark, hdone, hpulses⟩ := ih (s.present.emit _ x) hs (by rwa [hpend]) hpend
    refine ⟨t, { signal := x, durMs := x.durMs } :: pulses, (run_of_next hstep _).trans hrun, ?_, hmark, hdone,
      .cons ⟨x, Inputs.encodeBlock_of_result hv hx, rfl, x.durMs_toNat⟩ hpulses⟩
    rw [hout]
    simp

end Sys2Proof.Machine
end

section
/-! PROOFS. Scope: the encoding (30_encoding.md). First the decoder and the encoder, one format at a time; then
well-formedness by the nibbles of a descriptor; then what one evaluation shows on the ports. -/

namespace Sys2Proof.Machine

/-! ### From an instruction to its word and back -/

/-- A byte with its bits 7 and 6 at 0 is the second index that its low six bits are (R50). -/
theorem wordOfByte_second (sec : Second) : wordOfByte .S (byteOfWord (.second sec)) = .ok (.second sec) := by
  have hsec : sec.toNat < 64 := sec.isLt
  have hbyte : (byteOfWord (.second sec)).toNat = sec.toNat := by
    rw [byteOfWord, BitVec.toNat_setWidth]
    exact Nat.mod_eq_of_lt (by omega)
  rw [wordOfByte, if_pos (hbyte ▸ hsec)]
  congr 2
  apply BitVec.eq_of_toNat_eq
  rw [BitVec.extractLsb'_toNat, hbyte]
  exact Nat.mod_eq_of_lt hsec

/-- The byte of an instruction, read in its row's format, is the instruction's word. -/
theorem wordOfByte_encodeWord (i : Instr) : wordOfByte i.format (byteOfWord (encodeWord i)) = .ok (encodeWord i) := by
  rw [Instr.format]
  cases encodeWord i with
  | second sec => exact wordOfByte_second sec
  | descriptor d => exact wordOfByte_D d

/-- The seconds 60 to 63, binary 1111ss, select the default row with their two low bits (R55, R59). -/
theorem decodeSecond_default (ss : BitVec 2) : decodeSecond (0b1111#4 ++ ss) = .zDefault ss := by
  revert ss; decide

/-- The kinds 12 to 15, binary 11kk, select the reserved row with their two low bits (R60). -/
theorem decodeDescriptor_reservedKind (kk : BitVec 2) (idx : Idx) :
    decodeDescriptor (mkDesc (0b11#2 ++ kk) idx) = .reservedKind kk idx := by
  revert kk idx; decide

/-- An instruction's word selects the instruction: in format S by the table's entry, in format D by the kind nibble,
with the other nibble as the payload (R52, R55). -/
theorem decodeWord_encodeWord (i : Instr) : decodeWord (encodeWord i) = i := by
  cases i
  case marker idx | position idx | hourDigit idx | minuteDigit idx | dayDigit idx | yearDigit idx | weekdayDigit idx
      | leapSecondFlag idx | parityFlag idx | reserved idx | stopAnnounce idx | fixedZero idx =>
    change decodeDescriptor (mkDesc _ idx) = _
    rw [decodeDescriptor, descKind_mkDesc, descIdx_mkDesc]
    rfl
  case zDefault ss => exact decodeSecond_default ss
  case reservedKind kk idx => exact decodeDescriptor_reservedKind kk idx
  all_goals rfl

/-! ### From a word to its instruction and back -/

theorem encodeWord_decodeSecond : ∀ sec : Second, encodeWord (decodeSecond sec) = .second sec := by decide

/-- A descriptor selects a row of format D, whose word is the descriptor the row works on (R51). -/
theorem encodeWord_decodeDescriptor (d : Desc) : encodeWord (decodeDescriptor d) = .descriptor d := by
  have hword : encodeWord (decodeDescriptor d) = .descriptor (decodeDescriptor d).descriptor := by
    unfold decodeDescriptor
    split <;> rfl
  rw [hword, descriptor_decodeDescriptor]

/-- Settles O4. The byte of an instruction holds its word, and words and instructions are in bijection. -/
theorem decodeAndEncodeAgree : Obligations.DecodeAndEncodeAgree := by
  refine ⟨fun i rest => ?_, fun w => ?_⟩
  · calc decode i.format (encode i ++ rest)
      _ = .ok (decodeWord (encodeWord i), rest) := decode_cons (wordOfByte_encodeWord i) rest
      _ = .ok (i, rest) := by rw [decodeWord_encodeWord]
  · cases w with
    | second sec => exact encodeWord_decodeSecond sec
    | descriptor d => exact encodeWord_decodeDescriptor d

/-- Settles O5, by running the decoder on the thirteen words. -/
theorem specWordsDecodeRight : Obligations.SpecWordsDecodeRight := by
  unfold Obligations.SpecWordsDecodeRight
  decide

/-! ### Well-formedness -/

/-- `wf_desc` judges the payload nibble by the kind nibble (R53). -/
theorem wfDesc_mkDesc (kind : Kind) (idx : Idx) : wfDesc (mkDesc kind idx) = wfPayload kind.toNat idx.toNat := by
  rw [wfDesc, ← descKind_toNat, ← descIdx_toNat, descKind_mkDesc, descIdx_mkDesc]

/-- The predicate of R53 in numbers. -/
theorem wfPayload_iff (kind idx : Nat) : wfPayload kind idx = true ↔
    (kind = 0 ∧ idx = 0) ∨ (kind = 1 ∧ idx ≤ 5) ∨ (kind = 2 ∧ idx ≤ 5) ∨ (kind = 3 ∧ idx ≤ 6) ∨
    (kind = 4 ∧ idx ≤ 9) ∨ (kind = 5 ∧ idx ≤ 7) ∨ (kind = 6 ∧ idx ≤ 2) ∨ (kind = 7 ∧ 1 ≤ idx ∧ idx ≤ 2) ∨
    (kind = 8 ∧ 1 ≤ idx ∧ idx ≤ 2) ∨ (kind = 9 ∧ 1 ≤ idx ∧ idx ≤ 2) ∨ (kind = 10 ∧ 1 ≤ idx ∧ idx ≤ 6) ∨
    (kind = 11 ∧ idx = 0) := by
  unfold wfPayload
  split
  case h_13 => simp; lia
  all_goals simp

/-- No payload is in the range of a kind above 11, which no variant has (R52, R53). -/
theorem wfPayload_of_ge {kind : Nat} (h : 12 ≤ kind) (idx : Nat) : wfPayload kind idx = false := by
  rw [Bool.eq_false_iff, Ne, wfPayload_iff]
  omega

/-- Settles O6. A row of format S has a literal second, 60 or more in the default row alone; a row of format D is well
formed by its payload, as its descriptor is. -/
theorem wellFormedIsOfTheWord : Obligations.WellFormedIsOfTheWord := by
  intro i
  cases i
  case marker idx | position idx | hourDigit idx | minuteDigit idx | dayDigit idx | yearDigit idx | weekdayDigit idx
      | leapSecondFlag idx | parityFlag idx | reserved idx | stopAnnounce idx | fixedZero idx =>
    change _ = wfDesc (mkDesc _ idx)
    rw [wfDesc_mkDesc]
    rfl
  case zDefault ss => revert ss; decide
  case reservedKind kk idx =>
    have hkind : 12 ≤ (0b11#2 ++ kk).toNat := by revert kk; decide
    exact ((wfDesc_mkDesc _ idx).trans (wfPayload_of_ge hkind _)).symm
  all_goals rfl

/-- What the resolver returns is well formed, and no StopAnnounce (R53, R110). -/
theorem wfDesc_slotForSecond : ∀ sec : Second,
    wfDesc (slotForSecond sec).descriptor = true ∧ (slotForSecond sec).descriptor.toNat / 16 ≠ 10 := by decide

/-- Settles O7. The first part is R53's predicate on the two nibbles; the count and the resolver's descriptors are
evaluated. -/
theorem wellFormedDescriptorsAre54 : Obligations.WellFormedDescriptorsAre54 := by
  refine ⟨fun kind idx => ?_, by decide, wfDesc_slotForSecond⟩
  have h := wfPayload_iff kind.toNat idx.toNat
  rw [← wfDesc_mkDesc] at h
  simp only [← BitVec.toNat_inj, BitVec.le_def]
  exact h

/-! ### One evaluation -/

/-- Settles O10. Every row's meaning settles its descriptor. -/
theorem everyInstructionCompletes : Obligations.EveryInstructionCompletes :=
  fun i s => ⟨_, exec_eq i s⟩

/-- Settles O31. No port is wider than the operand bus. -/
theorem operandBusKeepsPorts : Obligations.OperandBusKeepsPorts :=
  fun inp => ⟨inp.fields_hour, inp.fields_minute, inp.fields_doy, inp.fields_year, inp.fields_wday⟩

/-- A raised fault is never the code 3, which nothing produces (R57). -/
theorem Fault.code_ne_three (f : Fault) : f.code ≠ 3 := by
  obtain h | h := f.code_cases <;> rw [h] <;> decide

/-- Settles O42. A value drives fault 0 with its code and its duration; a raised fault drives code 1 or 2. -/
theorem wireCodesAreLegal : Obligations.WireCodesAreLegal := by
  intro i s t h
  obtain ⟨v, rfl⟩ | ⟨f, rfl⟩ := exec_cases h
  · refine ⟨(by decide : (0 : BitVec 2) ≠ 3), fun _ => ?_⟩
    cases v with
    | zero => exact .inl ⟨rfl, rfl⟩
    | one => exact .inr (.inl ⟨rfl, rfl⟩)
    | marker => exact .inr (.inr ⟨rfl, rfl⟩)
  · exact ⟨f.code_ne_three, fun h0 => absurd h0 f.code_ne_zero⟩

/-- Settles O43. A value drives the two nibbles of the row's descriptor; format S takes it from the resolver's table. -/
theorem slotPortsShowDescriptor : Obligations.SlotPortsShowDescriptor := by
  refine ⟨fun i s t h h0 => ?_, descriptor_decodeSecond⟩
  obtain ⟨v, rfl⟩ | ⟨f, rfl⟩ := exec_cases h
  · exact mkDesc_eta i.descriptor
  · exact absurd h0 f.code_ne_zero

end Sys2Proof.Machine
end

section
/-! PROOFS. Scope: the BCD digit extractor and the parity calculator (40_bcd_parity.md). First a digit and its four bits,
which add up to a number by weight; then parity; last what one minute of top-level vectors transmits. -/

namespace Sys2Proof.Machine

open Sys2Proof.Stated

/-! ### The bits of a number's decimal digits -/

/-- The extractor by digit position and bit within the digit (R80). -/
theorem bcdDigit_position (n p : Nat) {b : Nat} (hb : b < 4) :
    bcdDigit n (4 * p + b) = n / 10 ^ p % 10 / 2 ^ b % 2 := by
  rw [bcdDigit_eq, show (4 * p + b) / 4 = p by omega, show (4 * p + b) % 4 = b by omega]

/-- The weight by digit position and bit within the digit (R82). -/
theorem weight_position (p : Nat) {b : Nat} (hb : b < 4) : weight (4 * p + b) = 2 ^ b * 10 ^ p := by
  rw [weight, show (4 * p + b) / 4 = p by omega, show (4 * p + b) % 4 = b by omega]

/-- A number below a bit's weight does not have that bit: its digit at that position is less than the bit's own value. -/
theorem bcdDigit_eq_zero_of_lt_weight {n k : Nat} (h : n < weight k) : bcdDigit n k = 0 := by
  have hquot : n / 10 ^ (k / 4) < 2 ^ (k % 4) := Nat.div_lt_of_lt_mul (by rwa [Nat.mul_comm])
  rw [bcdDigit_eq, Nat.div_eq_of_lt (lt_of_le_of_lt (Nat.mod_le _ _) hquot), Nat.zero_mod]

theorem weight_pos (k : Nat) : 0 < weight k := by
  rw [weight]
  positivity

/-- Settles O25. A zero bit is one whose weight the number does not reach; bit 3 of a digit leaves 8 and 9 alone. -/
theorem bcdDigitReadsDecimalDigits : Obligations.BcdDigitReadsDecimalDigits := by
  refine ⟨fun n p b => bcdDigit_position n p, fun k => bcdDigit_eq_zero_of_lt_weight (weight_pos k),
    fun n p b hn hb => bcdDigit_eq_zero_of_lt_weight ?_, fun n p => ?_, by decide, by decide⟩
  · rw [weight_position p hb]
    exact lt_of_lt_of_le hn (Nat.le_mul_of_pos_left _ (by positivity))
  · have hdigit : n / 10 ^ p % 10 < 10 := Nat.mod_lt _ (by decide)
    rw [bcdDigit_position n p (by decide), bcdDigit_position n p (by decide), bcdDigit_position n p (by decide)]
    omega

/-- Settles O26. The extractor's last operation is a remainder modulo 2. -/
theorem bcdDigitIsABit : Obligations.BcdDigitIsABit := by
  intro n k
  have hbit := bcdDigit_lt_two n k
  omega

/-! ### The weighted bits -/

/-- The four weighted bits of one digit position are the digit's share of the number. -/
theorem weightedBits_position (n p : Nat) :
    bcdDigit n (4 * p) * weight (4 * p) + bcdDigit n (4 * p + 1) * weight (4 * p + 1)
      + bcdDigit n (4 * p + 2) * weight (4 * p + 2) + bcdDigit n (4 * p + 3) * weight (4 * p + 3)
      = 10 ^ p * (n / 10 ^ p % 10) := by
  have hterm (b : Nat) (hb : b < 4) :
      bcdDigit n (4 * p + b) * weight (4 * p + b) = n / 10 ^ p % 10 / 2 ^ b % 2 * 2 ^ b * 10 ^ p := by
    rw [bcdDigit_position n p hb, weight_position p hb, Nat.mul_assoc]
  have hdigit : ∀ d < 10, d / 2 ^ 0 % 2 * 2 ^ 0 + d / 2 ^ 1 % 2 * 2 ^ 1 + d / 2 ^ 2 % 2 * 2 ^ 2
      + d / 2 ^ 3 % 2 * 2 ^ 3 = d := by decide
  change bcdDigit n (4 * p + 0) * weight (4 * p + 0) + _ + _ + _ = _
  rw [hterm 0 (by decide), hterm 1 (by decide), hterm 2 (by decide), hterm 3 (by decide),
    ← Nat.add_mul, ← Nat.add_mul, ← Nat.add_mul, hdigit _ (Nat.mod_lt _ (by decide)), Nat.mul_comm]

/-- The weighted bits of the `m` low digits add up to the number they write, by induction on the digits. -/
theorem weightedBits_sum (n m : Nat) :
    ((List.range (4 * m)).map fun k => bcdDigit n k * weight k).sum = n % 10 ^ m := by
  induction m with
  | zero => simp [Nat.mod_one]
  | succ m ih =>
    rw [Nat.mod_pow_succ, ← ih, ← weightedBits_position, show 4 * (m + 1) = 4 * m + 1 + 1 + 1 + 1 by ring]
    simp only [List.range_succ, List.map_append, List.map_singleton, List.sum_append, List.sum_singleton]
    ring

/-- Settles O27. A number of at most `m` digits is its own remainder modulo `10 ^ m`. -/
theorem bcdWeightsAddUpToNumber : Obligations.BcdWeightsAddUpToNumber :=
  ⟨by decide, fun _ => rfl, fun m n hn => (weightedBits_sum n m).trans (Nat.mod_eq_of_lt hn)⟩

/-! ### Parity -/

/-- The exclusive-or of two bits is their sum modulo 2. -/
theorem xor_of_bits {a b : Nat} (ha : a < 2) (hb : b < 2) : a ^^^ b = (a + b) % 2 := by
  rw [← Nat.xor_mod_two_eq, Nat.mod_eq_of_lt (Nat.xor_lt_two_pow (n := 1) ha hb)]

/-- The exclusive-or of the eight bits is the low bit of their sum (R86). -/
theorem xor_bcdDigits (n : Nat) :
    bcdDigit n 0 ^^^ bcdDigit n 1 ^^^ bcdDigit n 2 ^^^ bcdDigit n 3
      ^^^ bcdDigit n 4 ^^^ bcdDigit n 5 ^^^ bcdDigit n 6 ^^^ bcdDigit n 7 = bcdBitSum n % 2 := by
  have hmod (m : Nat) : m % 2 < 2 := Nat.mod_lt _ (by decide)
  simp only [xor_of_bits, bcdDigit_lt_two, hmod, Nat.mod_add_mod]
  rfl

/-- The ones that the statements count are the bits that `parity` sums. -/
theorem bcdOnes_eq (n : Nat) : bcdOnes n = bcdBitSum n := rfl

/-- Settles O28. Below 100 all is the low bit of the sum of the eight bits. -/
theorem parityIsXorOfEightBits : Obligations.ParityIsXorOfEightBits := by
  refine ⟨fun n hn => ⟨_, parity_of_lt hn, (xor_bcdDigits n).symm, by rw [bcdOnes_eq], ?_⟩,
    fun n => parity_of_ge, by decide⟩
  rw [bcdOnes_eq]
  omega

/-! ### What a second transmits -/

/-- The number on the `value` port while a slot is sent (R56, R130). No second resolves to StopAnnounce, which sends
none. -/
def sentValue (f : TimeFields) : FrameSlot → Nat
  | .marker | .position _ => 2
  | .hourDigit k => bcdDigit f.hour k.toNat
  | .minuteDigit k => bcdDigit f.minute k.toNat
  | .dayDigit k => bcdDigit f.doy k.toNat
  | .yearDigit k => bcdDigit f.year k.toNat
  | .weekdayDigit k => bcdDigit f.wday k.toNat
  | .parityFlag idx => bcdBitSum (if idx.toNat = 1 then f.hour else f.minute) % 2
  | .leapSecondFlag _ | .reserved _ | .stopAnnounce _ | .fixedZero => 0

/-- A bit is sent as itself (R56, R131). -/
theorem code_of_bitToSignal {b : Nat} {v : SignalValue} (h : bitToSignal b = .ok v) : v.code.toNat = b := by
  unfold bitToSignal at h
  split at h
  case isTrue h0 => cases h; exact h0.symm
  split at h
  case isTrue h1 => cases h; exact h1.symm
  case isFalse => cases h

/-- A parity is sent as the low bit of the sum of the eight bits (R84, R139). -/
theorem code_of_signalParity {n : Nat} {v : SignalValue} (h : signalParity n = .ok v) :
    v.code.toNat = bcdBitSum n % 2 := by
  obtain hn | hn : n < 100 ∨ 100 ≤ n := by omega
  · rw [signalParity, parity_of_lt hn] at h
    exact code_of_bitToSignal h
  · rw [signalParity_of_ge hn] at h
    cases h

/-- What the multiplexer yields for a slot has the code `sentValue` (R130). -/
theorem code_of_signalOf {slot : FrameSlot} {f : TimeFields} {v : SignalValue}
    (h : signalOf slot.kindCode slot.payload f = .ok v) : v.code.toNat = sentValue f slot := by
  cases slot with
  | marker | position _ | leapSecondFlag _ | reserved _ | fixedZero => cases h; rfl
  | hourDigit _ | minuteDigit _ | dayDigit _ | yearDigit _ | weekdayDigit _ => exact code_of_bitToSignal h
  | parityFlag idx =>
    change signalParityFlag f idx.toNat = .ok v at h
    rw [signalParityFlag] at h
    rw [sentValue]
    split at h
    case isTrue h1 => rw [if_pos h1]; exact code_of_signalParity h
    split at h
    case isTrue h1 _ => rw [if_neg h1]; exact code_of_signalParity h
    case isFalse => cases h
  | stopAnnounce _ => cases h

/-- At every second a running run sends the value of the resolver's slot, whatever its history (R146, R147). -/
theorem sends_sentValue (inp : Inputs) (sec : Second) : sends inp sec (sentValue inp.fields (slotForSecond sec)) := by
  intro s hs hnext
  obtain ⟨v, hv⟩ : ∃ v, s.nextInputs.result = .ok v := Inputs.result_ok_of_top_defaults (by rw [hnext])
  refine ⟨_, step_of_ok hs hv, rfl, ?_⟩
  rw [hnext, Inputs.result_of_top (by decide) rfl] at hv
  exact code_of_signalOf hv

/-! ### The bits a field transmits

A field sends fewer bits than its digits have; the bits it leaves out have weights that no number in contract reaches. -/

section Transmitted

variable {n : Nat}

/-- The weighted bits of a number of at most three digits, written out (R82). -/
theorem weightedBits_three (h : n < 1000) :
    bcdDigit n 0 + 2 * bcdDigit n 1 + 4 * bcdDigit n 2 + 8 * bcdDigit n 3
      + 10 * bcdDigit n 4 + 20 * bcdDigit n 5 + 40 * bcdDigit n 6 + 80 * bcdDigit n 7
      + 100 * bcdDigit n 8 + 200 * bcdDigit n 9 + 400 * bcdDigit n 10 + 800 * bcdDigit n 11 = n := by
  obtain ⟨-, -, hweights⟩ := bcdWeightsAddUpToNumber
  simpa [List.range_succ, weight, Nat.mul_comm, Nat.add_assoc] using hweights 3 n h

/-- A bit of a larger weight than a field's bound is 0. -/
theorem bcdDigit_eq_zero_of_le {bound : Nat} (h : n ≤ bound) (k : Nat) (hk : bound < weight k) : bcdDigit n k = 0 :=
  bcdDigit_eq_zero_of_lt_weight (h.trans_lt hk)

theorem hourBits_sum (h : n ≤ 23) :
    20 * bcdDigit n 5 + 10 * bcdDigit n 4 + 8 * bcdDigit n 3 + 4 * bcdDigit n 2 + 2 * bcdDigit n 1
      + bcdDigit n 0 = n := by
  have hsum := weightedBits_three (n := n) (by omega)
  simp (disch := decide) only [bcdDigit_eq_zero_of_le h] at hsum
  omega

theorem minuteBits_sum (h : n ≤ 59) :
    40 * bcdDigit n 6 + 20 * bcdDigit n 5 + 10 * bcdDigit n 4 + 8 * bcdDigit n 3 + 4 * bcdDigit n 2
      + 2 * bcdDigit n 1 + bcdDigit n 0 = n := by
  have hsum := weightedBits_three (n := n) (by omega)
  simp (disch := decide) only [bcdDigit_eq_zero_of_le h] at hsum
  omega

theorem doyBits_sum (h : n ≤ 366) :
    200 * bcdDigit n 9 + 100 * bcdDigit n 8 + 80 * bcdDigit n 7 + 40 * bcdDigit n 6 + 20 * bcdDigit n 5
      + 10 * bcdDigit n 4 + 8 * bcdDigit n 3 + 4 * bcdDigit n 2 + 2 * bcdDigit n 1 + bcdDigit n 0 = n := by
  have hsum := weightedBits_three (n := n) (by omega)
  simp (disch := decide) only [bcdDigit_eq_zero_of_le h] at hsum
  omega

theorem yearBits_sum (h : n ≤ 99) :
    80 * bcdDigit n 7 + 40 * bcdDigit n 6 + 20 * bcdDigit n 5 + 10 * bcdDigit n 4 + 8 * bcdDigit n 3
      + 4 * bcdDigit n 2 + 2 * bcdDigit n 1 + bcdDigit n 0 = n := by
  have hsum := weightedBits_three (n := n) (by omega)
  simp (disch := decide) only [bcdDigit_eq_zero_of_le h] at hsum
  omega

theorem wdayBits_sum (h : n ≤ 6) : 4 * bcdDigit n 2 + 2 * bcdDigit n 1 + bcdDigit n 0 = n := by
  have hsum := weightedBits_three (n := n) (by omega)
  simp (disch := decide) only [bcdDigit_eq_zero_of_le h] at hsum
  omega

/-- An hour's transmitted bits with its parity: the parity counts two bits more, the weights 40 and 80 (R86). -/
theorem hourBits_parity_even (h : n ≤ 23) :
    (bcdDigit n 5 + bcdDigit n 4 + bcdDigit n 3 + bcdDigit n 2 + bcdDigit n 1 + bcdDigit n 0
      + bcdBitSum n % 2) % 2 = 0 := by
  have h6 := bcdDigit_eq_zero_of_le h 6 (by decide)
  have h7 := bcdDigit_eq_zero_of_le h 7 (by decide)
  rw [bcdBitSum]
  omega

/-- A minute's transmitted bits with its parity: the parity counts one bit more, the weight 80 (R86). -/
theorem minuteBits_parity_even (h : n ≤ 59) :
    (bcdDigit n 6 + bcdDigit n 5 + bcdDigit n 4 + bcdDigit n 3 + bcdDigit n 2 + bcdDigit n 1 + bcdDigit n 0
      + bcdBitSum n % 2) % 2 = 0 := by
  have h7 := bcdDigit_eq_zero_of_le h 7 (by decide)
  rw [bcdBitSum]
  omega

end Transmitted

/-! ### One minute -/

/-- The contract's bounds on the operand bus (R58, R213). -/
theorem Inputs.FieldsInContract.fields_le {inp : Inputs} (h : inp.FieldsInContract) :
    inp.fields.hour ≤ 23 ∧ inp.fields.minute ≤ 59 ∧ inp.fields.doy ≤ 366 ∧ inp.fields.year ≤ 99 ∧
      inp.fields.wday ≤ 6 := by
  obtain ⟨hhour, hminute, -, hdoy, hyear, hwday⟩ := h
  simp [*]

/-- Settles O46. Each second's slot sends the bit of its weight, and each field's bits add up to the field. -/
theorem transmittedBitsDecodeToFields : Obligations.TransmittedBitsDecodeToFields := by
  intro inp h
  obtain ⟨hhour, hminute, hdoy, hyear, hwday⟩ := h.fields_le
  exact ⟨_, sends_sentValue inp, (minuteBits_sum hminute).trans inp.fields_minute,
    (hourBits_sum hhour).trans inp.fields_hour, (doyBits_sum hdoy).trans inp.fields_doy,
    (yearBits_sum hyear).trans inp.fields_year, (wdayBits_sum hwday).trans inp.fields_wday⟩

/-- Settles O47. The slots of the seconds 36 and 37 send the parities of the hour and the minute. -/
theorem transmittedParityIsEven : Obligations.TransmittedParityIsEven := by
  intro inp h
  obtain ⟨hhour, hminute, -⟩ := h.fields_le
  exact ⟨_, sends_sentValue inp, hourBits_parity_even hhour, minuteBits_parity_even hminute⟩

end Sys2Proof.Machine
end

section
/-! PROOFS. Scope: the frame-slot resolver (41_frame_slot_resolver.md). First what the slot ports show of a presented
second; then the frame table itself, row by row and as a map between seconds and descriptors. -/

namespace Sys2Proof.Machine

/-! ### The slot ports of a top-level step -/

/-- A top-level step drives the slot ports with the resolver's descriptor for the presented second (R116, R147). -/
theorem step_slotPorts_of_top {s : State} (hs : s.runFault = none) (htop : s.nextInputs.inject = none) :
    ∃ t, step s = .next t ∧ t.out.slotKind = descKind (slotForSecond s.nextInputs.sec).descriptor ∧
      t.out.slotIdx = descIdx (slotForSecond s.nextInputs.sec).descriptor := by
  obtain ⟨v, hv⟩ := Inputs.result_ok_of_top_defaults htop
  refine ⟨_, step_of_ok hs hv, ?_⟩
  rw [Inputs.descriptor_of_top _ htop]
  exact ⟨rfl, rfl⟩

/-- Settles O40. Both steps show the resolver's descriptor for the one second. -/
theorem slotPortsDependOnSecondOnly : Obligations.SlotPortsDependOnSecondOnly := by
  intro s u hs hu hstop hutop hsec
  obtain ⟨t, hst, htk, hti⟩ := step_slotPorts_of_top hs hstop
  obtain ⟨w, huw, hwk, hwi⟩ := step_slotPorts_of_top hu hutop
  rw [← hsec] at hwk hwi
  exact ⟨t, w, hst, huw, htk.trans hwk.symm, hti.trans hwi.symm⟩

/-! ### The rows of the table -/

/-- Settles O32, by evaluating the resolver at the sixty seconds. -/
theorem resolverIsTheSlotTable : Obligations.ResolverIsTheSlotTable := by
  unfold Obligations.ResolverIsTheSlotTable
  decide

/-- The kind nibble of a slot's wire form is the number of its variant (R52). -/
theorem descriptor_toNat_div_16 (slot : FrameSlot) : slot.descriptor.toNat / 16 = slot.kindCode := by
  rw [← descKind_toNat, descKind_descriptor]

/-- A well-formed descriptor is of one of the twelve variants, and no digit variant has a bit above 9 (R52, R53). -/
theorem wfDesc_bounds {d : Desc} (h : wfDesc d = true) :
    d.toNat / 16 < 12 ∧ (2 ≤ d.toNat / 16 → d.toNat / 16 ≤ 6 → d.toNat % 16 ≤ 9) := by
  rw [wfDesc, wfPayload_iff] at h
  omega

/-- Settles O33. A StopAnnounce would have the kind 10; the bounds are those of every well-formed descriptor. -/
theorem resolverOutputsAreWellFormed : Obligations.ResolverOutputsAreWellFormed := by
  intro sec
  obtain ⟨hwf, hkind⟩ := wfDesc_slotForSecond sec
  refine ⟨hwf, fun idx hstop => hkind ?_, wfDesc_bounds hwf⟩
  rw [descriptor_toNat_div_16, hstop]
  rfl

/-! ### The table as a map -/

/-- The seconds of 0 to 59 that hold FixedZero (R109). -/
theorem slotForSecond_eq_fixedZero_iff : ∀ sec : Second, sec.toNat ≤ 59 → (slotForSecond sec = .fixedZero ↔
    sec.toNat ∈ [4, 10, 11, 14, 20, 21, 24, 34, 35, 55, 56, 57, 58]) := by decide

/-- A slot other than FixedZero is first found in the table at the very second that resolves to it (R111). -/
theorem idxOf_slotForSecond : ∀ sec : Second, slotForSecond sec ≠ .fixedZero →
    slotTable.idxOf (slotForSecond sec) = sec.toNat := by decide

/-- Apart from FixedZero no slot stands at two seconds: its place in the table is its second (R111). -/
theorem slotForSecond_injective {a b : Second} (ha : slotForSecond a ≠ .fixedZero)
    (h : slotForSecond a = slotForSecond b) : a = b := by
  apply BitVec.eq_of_toNat_eq
  rw [← idxOf_slotForSecond a ha, ← idxOf_slotForSecond b (h ▸ ha), h]

/-- The table holds every well-formed descriptor but the StopAnnounce ones (R111). -/
theorem wfDesc_mem_slotTable : ∀ d : Desc, wfDesc d = true → d.toNat / 16 ≠ 10 →
    d ∈ slotTable.map FrameSlot.descriptor := by decide

/-- Each slot of the table is what the resolver answers at one of the seconds 0 to 59 (R100). -/
theorem exists_second_of_mem_slotTable {slot : FrameSlot} (h : slot ∈ slotTable) :
    ∃ sec : Second, sec.toNat ≤ 59 ∧ slotForSecond sec = slot := by
  obtain ⟨n, hn, rfl⟩ := List.getElem_of_mem h
  have hlt : n < 60 := hn
  have hsec : (BitVec.ofNat 6 n).toNat = n := toNat_ofNat_of_lt (k := 6) (by omega) le_rfl
  refine ⟨BitVec.ofNat 6 n, by omega, ?_⟩
  rw [slotForSecond, hsec, slotOf, List.getElem?_eq_getElem hn, Option.getD_some]

/-- Settles O34. The census is counted; each descriptor the table holds is reached at its place in the table. -/
theorem tableCensus : Obligations.TableCensus := by
  refine ⟨slotForSecond_eq_fixedZero_iff, by decide, fun _ _ _ _ => slotForSecond_injective, fun d hwf hkind => ?_⟩
  obtain ⟨slot, hslot, rfl⟩ := List.mem_map.mp (wfDesc_mem_slotTable d hwf hkind)
  obtain ⟨sec, hle, rfl⟩ := exists_second_of_mem_slotTable hslot
  exact ⟨sec, hle, rfl⟩

end Sys2Proof.Machine
end

section
/-! PROOFS. Scope: the signal-value multiplexer (42_signal_value.md). First its two leaf functions; then, at a second or
as a descriptor, what is to be shown of an operation: the multiplexer's answer to its slot; then the operations, the
constant ones before the digits and the parities; last the block at the top level. -/

namespace Sys2Proof.Machine

open Sys2Proof.Stated

/-! ### Bits and durations -/

theorem bitToSignal_error {v : Nat} (h0 : v ≠ 0) (h1 : v ≠ 1) : bitToSignal v = .error (.invalidArgument v) := by
  rw [bitToSignal, if_neg h0, if_neg h1]

/-- No number converts to Marker: it would be Marker's code, 2, which raises (R131). -/
theorem bitToSignal_ne_marker (v : Nat) : bitToSignal v ≠ .ok .marker := by
  intro h
  obtain rfl : 2 = v := code_of_bitToSignal h
  cases h

/-- What `parity` yields is a bit (R84). -/
theorem lt_two_of_parity {n b : Nat} (h : parity n = .ok b) : b < 2 := by
  obtain hn | hn : n < 100 ∨ 100 ≤ n := by omega
  · rw [parity_of_lt hn] at h
    cases h
    exact Nat.mod_lt _ (by decide)
  · rw [parity_of_ge hn] at h
    cases h

/-- Settles O29. Bits convert and other numbers raise; what `bcd_digit` and `parity` yield are bits. -/
theorem bitToSignalConvertsBits : Obligations.BitToSignalConvertsBits :=
  ⟨rfl, rfl, fun _ => bitToSignal_error, bitToSignal_ne_marker,
    fun n k => ⟨_, bitToSignal_of_lt (bcdDigit_lt_two n k)⟩, fun _ _ h => ⟨_, bitToSignal_of_lt (lt_two_of_parity h)⟩⟩

/-- Every pulse is shorter than its second (R144). -/
theorem durationMs_lt (v : SignalValue) : durationMs v < 1000 := by
  cases v <;> decide

/-- Settles O30. The port carries each duration. -/
theorem durationsAreFixed : Obligations.DurationsAreFixed :=
  ⟨rfl, rfl, rfl, fun v => ⟨v.durMs_toNat, durationMs_lt v⟩⟩

/-! ### Operations by the multiplexer's answer -/

/-- An instruction whose descriptor the multiplexer answers with a value shows both on the ports (R51, R130). -/
theorem exec_reads {i : Instr} {s : State} {v : SignalValue} (h : signalValue i.descriptor s.inp.fields = .ok v) :
    ∃ t, exec i s = .next t ∧ t.out.slotKind ++ t.out.slotIdx = i.descriptor ∧ reads t.out v := by
  refine ⟨_, exec_eq i s, ?_⟩
  rw [h, State.settle_ok]
  exact ⟨mkDesc_eta i.descriptor, reads_ofValue i.descriptor v⟩

/-- A row of format D works on its own word (R51). -/
theorem descriptor_of_encodeWord {i : Instr} {d : Desc} (h : encodeWord i = .descriptor d) : i.descriptor = d := by
  obtain rfl : decodeDescriptor d = i := by rw [← decodeWord_encodeWord i, h]; rfl
  exact descriptor_decodeDescriptor d

section Operations

variable {i : Instr} {kind : Kind} {idx : Idx} {v : Inputs → SignalValue}

/-- A second sends what the multiplexer answers to its slot. -/
theorem slotSends_of_ok {sec : Second} (slot : FrameSlot) (hword : encodeWord i = .second sec)
    (hslot : slotForSecond sec = slot)
    (hv : ∀ inp : Inputs, signalOf slot.kindCode slot.payload inp.fields = .ok (v inp)) :
    slotSends sec i slot.descriptor v := by
  have hdec : decodeWord (.second sec) = i := by rw [← hword, decodeWord_encodeWord]
  have hdesc : i.descriptor = slot.descriptor := by rw [← hdec, ← hslot]; exact descriptor_decodeSecond sec
  refine ⟨hdec, fun s => ?_⟩
  rw [← hdesc]
  exact exec_reads (by rw [hdesc, signalValue_descriptor, hv])

/-- A descriptor sends what the multiplexer answers to its nibbles. -/
theorem operationSends_of_ok (hword : encodeWord i = .descriptor (mkDesc kind idx))
    (hv : ∀ inp : Inputs, signalOf kind.toNat idx.toNat inp.fields = .ok (v inp)) :
    operationSends (mkDesc kind idx) i v := by
  refine ⟨by rw [← hword, decodeWord_encodeWord], fun s => ?_⟩
  obtain ⟨t, hexec, -, hreads⟩ := exec_reads (i := i) (s := s) (v := v s.inp)
    (by rw [descriptor_of_encodeWord hword, signalValue_mkDesc, hv])
  exact ⟨t, hexec, hreads⟩

/-- A descriptor to whose nibbles the multiplexer answers UnexpectedSlot raises it. -/
theorem operationRaises_of_error (hword : encodeWord i = .descriptor (mkDesc kind idx))
    (hf : ∀ f, signalOf kind.toNat idx.toNat f = .error (.unexpectedSlot kind.toNat idx.toNat)) :
    operationRaises (mkDesc kind idx) i := by
  refine ⟨by rw [← hword, decodeWord_encodeWord], fun s => ⟨_, exec_eq i s, ?_⟩, fun f => ?_⟩
  · rw [descriptor_of_encodeWord hword, signalValue_mkDesc, hf]
    rfl
  · rw [signalValue_mkDesc, hf, descKind_mkDesc, descIdx_mkDesc]

end Operations

/-! ### The constant operations -/

/-- Settles O12. The multiplexer answers Marker to kind 0. -/
theorem markerTransmitsMarker : Obligations.MarkerTransmitsMarker :=
  ⟨slotSends_of_ok .marker rfl rfl fun _ => rfl, fun _ => operationSends_of_ok rfl fun _ => rfl⟩

/-- Settles O13. The multiplexer answers Marker to kind 1, whatever the index. -/
theorem positionTransmitsMarker : Obligations.PositionTransmitsMarker :=
  ⟨slotSends_of_ok (.position 1) rfl rfl fun _ => rfl,
    slotSends_of_ok (.position 2) rfl rfl fun _ => rfl,
    slotSends_of_ok (.position 3) rfl rfl fun _ => rfl,
    slotSends_of_ok (.position 4) rfl rfl fun _ => rfl,
    slotSends_of_ok (.position 5) rfl rfl fun _ => rfl,
    slotSends_of_ok (.position 0) rfl rfl fun _ => rfl,
    fun _ => operationSends_of_ok rfl fun _ => rfl⟩

/-- Settles O19. The multiplexer answers Zero to kind 7, whatever the index. -/
theorem leapSecondTransmitsZero : Obligations.LeapSecondTransmitsZero :=
  ⟨slotSends_of_ok (.leapSecondFlag 1) rfl rfl fun _ => rfl,
    slotSends_of_ok (.leapSecondFlag 2) rfl rfl fun _ => rfl,
    fun _ => operationSends_of_ok rfl fun _ => rfl⟩

/-- Settles O21. The multiplexer answers Zero to kind 9, whatever the index. -/
theorem reservedTransmitsZero : Obligations.ReservedTransmitsZero :=
  ⟨slotSends_of_ok (.reserved 1) rfl rfl fun _ => rfl,
    slotSends_of_ok (.reserved 2) rfl rfl fun _ => rfl,
    fun _ => operationSends_of_ok rfl fun _ => rfl⟩

/-- The seconds 60 to 63, binary 1111ss, are beyond the table (R103). -/
theorem slotForSecond_default (ss : BitVec 2) : slotForSecond (0b1111#4 ++ ss) = .fixedZero := by
  revert ss; decide

/-- Settles O24. The multiplexer answers Zero to kind 11, which the thirteen seconds and the default row resolve to. -/
theorem fixedZeroTransmitsZero : Obligations.FixedZeroTransmitsZero := by
  refine ⟨fun row hrow => ?_, fun ss => slotSends_of_ok .fixedZero rfl (slotForSecond_default ss) fun _ => rfl,
    fun _ => operationSends_of_ok rfl fun _ => rfl⟩
  obtain ⟨hword, hslot⟩ : encodeWord row.2 = .second row.1 ∧ slotForSecond row.1 = .fixedZero := by
    revert row; decide
  exact slotSends_of_ok .fixedZero hword hslot fun _ => rfl

/-! ### The operations that raise UnexpectedSlot -/

/-- No second selects StopAnnounce: its word is a descriptor, the word of what a second selects is that second (R141). -/
theorem decodeSecond_ne_stopAnnounce (sec : Second) (idx : Idx) : decodeSecond sec ≠ .stopAnnounce idx := by
  intro h
  have hword := encodeWord_decodeSecond sec
  rw [h] at hword
  cases hword

/-- Settles O22. The multiplexer has one answer to kind 10; the resolver's slots are never StopAnnounce (R110). -/
theorem stopAnnounceRaisesUnexpectedSlot : Obligations.StopAnnounceRaisesUnexpectedSlot := by
  refine ⟨fun _ => operationRaises_of_error rfl fun _ => rfl,
    fun sec idx => ⟨decodeSecond_ne_stopAnnounce sec idx, ?_⟩⟩
  obtain ⟨-, hstop, -⟩ := resolverOutputsAreWellFormed sec
  exact hstop idx

/-- Settles O23. The kinds 12 to 15 all take the multiplexer's last arm. -/
theorem reservedKindRaisesUnexpectedSlot : Obligations.ReservedKindRaisesUnexpectedSlot :=
  fun kk idx => operationRaises_of_error (kind := 0b11#2 ++ kk) rfl (signalOf_reservedKind kk idx.toNat)

/-! ### The digits -/

/-- A field's digit variant yields the BCD bit in the words of the statements (R80, R131). -/
theorem signalDigit_bitSignal (n k : Nat) :
    signalDigit n k = .ok (bitSignal (digitBit n (10 ^ (k / 4)) (2 ^ (k % 4)))) := signalDigit_eq n k

/-- The weights increase: within a digit each doubles the one before, and 8 units are less than the next digit's one. -/
theorem weight_strictMono : StrictMono weight := by
  refine strictMono_nat_of_lt_succ fun k => ?_
  obtain ⟨p, b, hb, rfl⟩ : ∃ p b, b < 4 ∧ k = 4 * p + b := ⟨k / 4, k % 4, by omega, by omega⟩
  obtain hlow | rfl : b < 3 ∨ b = 3 := by omega
  · rw [Nat.add_assoc, weight_position p hb, weight_position p (by omega), Nat.pow_succ]
    have hweight : 0 < 2 ^ b * 10 ^ p := by positivity
    rw [Nat.mul_right_comm]
    omega
  · rw [show 4 * p + 3 + 1 = 4 * (p + 1) + 0 by ring, weight_position p hb, weight_position (p + 1) (by decide),
      Nat.pow_succ]
    have hpos : 0 < 10 ^ p := by positivity
    omega

/-- Above the bit-index whose weight a field does not reach, every digit variant yields Zero. -/
theorem signalDigit_of_gt {n k j : Nat} (hn : n < weight (j + 1)) (hk : j < k) : signalDigit n k = .ok .zero := by
  rw [signalDigit, bcdDigit_eq_zero_of_lt_weight (hn.trans_le (weight_strictMono.monotone hk))]
  rfl

namespace Inputs

variable (inp : Inputs) (k : Nat)

theorem signalHour_eq : signalHour inp.fields k = .ok (hourBit (10 ^ (k / 4)) (2 ^ (k % 4)) inp) := by
  rw [signalHour, fields_hour]
  exact signalDigit_bitSignal _ k

theorem signalMinute_eq : signalMinute inp.fields k = .ok (minuteBit (10 ^ (k / 4)) (2 ^ (k % 4)) inp) := by
  rw [signalMinute, fields_minute]
  exact signalDigit_bitSignal _ k

theorem signalDay_eq : signalDay inp.fields k = .ok (doyBit (10 ^ (k / 4)) (2 ^ (k % 4)) inp) := by
  rw [signalDay, fields_doy]
  exact signalDigit_bitSignal _ k

theorem signalYear_eq : signalYear inp.fields k = .ok (yearBit (10 ^ (k / 4)) (2 ^ (k % 4)) inp) := by
  rw [signalYear, fields_year]
  exact signalDigit_bitSignal _ k

theorem signalWeekday_eq : signalWeekday inp.fields k = .ok (wdayBit (10 ^ (k / 4)) (2 ^ (k % 4)) inp) := by
  rw [signalWeekday, fields_wday]
  exact signalDigit_bitSignal _ k

/-! What no port of the default width reaches: the hour 40, the minute 80, the day 800, the weekday 8. -/

variable {k}

theorem signalHour_zero (hk : 5 < k) : signalHour inp.fields k = .ok .zero :=
  signalDigit_of_gt (by rw [fields_hour]; exact inp.hour_lt.trans_le (by decide)) hk

theorem signalMinute_zero (hk : 6 < k) : signalMinute inp.fields k = .ok .zero :=
  signalDigit_of_gt (by rw [fields_minute]; exact inp.minute_lt.trans_le (by decide)) hk

theorem signalDay_zero (hk : 10 < k) : signalDay inp.fields k = .ok .zero :=
  signalDigit_of_gt (by rw [fields_doy]; exact inp.doy_lt.trans_le (by decide)) hk

theorem signalWeekday_zero (hk : 2 < k) : signalWeekday inp.fields k = .ok .zero :=
  signalDigit_of_gt (by rw [fields_wday]; exact inp.wday_lt.trans_le (by decide)) hk

/-- A weekday is one decimal digit, so its BCD bits are its binary ones (R138). -/
theorem signalWeekday_getLsbD (hk : k < 4) :
    signalWeekday inp.fields k = .ok (if inp.wday.getLsbD k then .one else .zero) := by
  have hdigit : bcdDigit inp.wday.toNat k = inp.wday.toNat / 2 ^ k % 2 := by
    have hwday : inp.wday.toNat < 10 := inp.wday_lt.trans (by decide)
    rw [bcdDigit_eq, Nat.div_eq_of_lt hk, Nat.mod_eq_of_lt hk, Nat.pow_zero, Nat.div_one, Nat.mod_eq_of_lt hwday]
  rw [signalWeekday, fields_wday, signalDigit_eq, hdigit, BitVec.getLsbD, Nat.testBit_eq_decide_div_mod_eq]
  simp only [decide_eq_true_eq]

end Inputs

/-- Settles O14. The multiplexer answers to kind 2 the bit of `hour`. -/
theorem hourDigitTransmitsBcdBit : Obligations.HourDigitTransmitsBcdBit :=
  ⟨slotSends_of_ok (.hourDigit 5) rfl rfl (·.signalHour_eq 5),
    slotSends_of_ok (.hourDigit 4) rfl rfl (·.signalHour_eq 4),
    slotSends_of_ok (.hourDigit 3) rfl rfl (·.signalHour_eq 3),
    slotSends_of_ok (.hourDigit 2) rfl rfl (·.signalHour_eq 2),
    slotSends_of_ok (.hourDigit 1) rfl rfl (·.signalHour_eq 1),
    slotSends_of_ok (.hourDigit 0) rfl rfl (·.signalHour_eq 0),
    fun idx => operationSends_of_ok rfl (·.signalHour_eq idx.toNat),
    fun _ hidx => operationSends_of_ok rfl (·.signalHour_zero hidx)⟩

/-- Settles O15. The multiplexer answers to kind 3 the bit of `minute`. -/
theorem minuteDigitTransmitsBcdBit : Obligations.MinuteDigitTransmitsBcdBit :=
  ⟨slotSends_of_ok (.minuteDigit 6) rfl rfl (·.signalMinute_eq 6),
    slotSends_of_ok (.minuteDigit 5) rfl rfl (·.signalMinute_eq 5),
    slotSends_of_ok (.minuteDigit 4) rfl rfl (·.signalMinute_eq 4),
    slotSends_of_ok (.minuteDigit 3) rfl rfl (·.signalMinute_eq 3),
    slotSends_of_ok (.minuteDigit 2) rfl rfl (·.signalMinute_eq 2),
    slotSends_of_ok (.minuteDigit 1) rfl rfl (·.signalMinute_eq 1),
    slotSends_of_ok (.minuteDigit 0) rfl rfl (·.signalMinute_eq 0),
    fun idx => operationSends_of_ok rfl (·.signalMinute_eq idx.toNat),
    fun _ hidx => operationSends_of_ok rfl (·.signalMinute_zero hidx)⟩

/-- Settles O16. The multiplexer answers to kind 4 the bit of `doy`. -/
theorem dayDigitTransmitsBcdBit : Obligations.DayDigitTransmitsBcdBit :=
  ⟨slotSends_of_ok (.dayDigit 9) rfl rfl (·.signalDay_eq 9),
    slotSends_of_ok (.dayDigit 8) rfl rfl (·.signalDay_eq 8),
    slotSends_of_ok (.dayDigit 7) rfl rfl (·.signalDay_eq 7),
    slotSends_of_ok (.dayDigit 6) rfl rfl (·.signalDay_eq 6),
    slotSends_of_ok (.dayDigit 5) rfl rfl (·.signalDay_eq 5),
    slotSends_of_ok (.dayDigit 4) rfl rfl (·.signalDay_eq 4),
    slotSends_of_ok (.dayDigit 3) rfl rfl (·.signalDay_eq 3),
    slotSends_of_ok (.dayDigit 2) rfl rfl (·.signalDay_eq 2),
    slotSends_of_ok (.dayDigit 1) rfl rfl (·.signalDay_eq 1),
    slotSends_of_ok (.dayDigit 0) rfl rfl (·.signalDay_eq 0),
    fun idx => operationSends_of_ok rfl (·.signalDay_eq idx.toNat),
    fun _ hidx => operationSends_of_ok rfl (·.signalDay_zero hidx)⟩

/-- Settles O17. The multiplexer answers to kind 5 the bit of `year`. -/
theorem yearDigitTransmitsBcdBit : Obligations.YearDigitTransmitsBcdBit :=
  ⟨slotSends_of_ok (.yearDigit 7) rfl rfl (·.signalYear_eq 7),
    slotSends_of_ok (.yearDigit 6) rfl rfl (·.signalYear_eq 6),
    slotSends_of_ok (.yearDigit 5) rfl rfl (·.signalYear_eq 5),
    slotSends_of_ok (.yearDigit 4) rfl rfl (·.signalYear_eq 4),
    slotSends_of_ok (.yearDigit 3) rfl rfl (·.signalYear_eq 3),
    slotSends_of_ok (.yearDigit 2) rfl rfl (·.signalYear_eq 2),
    slotSends_of_ok (.yearDigit 1) rfl rfl (·.signalYear_eq 1),
    slotSends_of_ok (.yearDigit 0) rfl rfl (·.signalYear_eq 0),
    fun idx => operationSends_of_ok rfl (·.signalYear_eq idx.toNat)⟩

/-- Settles O18. The multiplexer answers to kind 6 the bit of `wday`, binary at the three seconds. -/
theorem weekdayDigitTransmitsBinaryBit : Obligations.WeekdayDigitTransmitsBinaryBit :=
  ⟨slotSends_of_ok (.weekdayDigit 2) rfl rfl (·.signalWeekday_getLsbD (k := 2) (by decide)),
    slotSends_of_ok (.weekdayDigit 1) rfl rfl (·.signalWeekday_getLsbD (k := 1) (by decide)),
    slotSends_of_ok (.weekdayDigit 0) rfl rfl (·.signalWeekday_getLsbD (k := 0) (by decide)),
    fun idx => operationSends_of_ok rfl (·.signalWeekday_eq idx.toNat),
    fun _ hidx => operationSends_of_ok rfl (·.signalWeekday_zero hidx)⟩

/-! ### The parities -/

/-- The multiplexer's answer to PA1 and PA2 (R106, R139). -/
theorem signalValue_pa1 (f : TimeFields) : signalValue 0x81 f = signalParity f.hour := rfl
theorem signalValue_pa2 (f : TimeFields) : signalValue 0x82 f = signalParity f.minute := rfl

/-- ParityFlag with an index other than 1 and 2 (R139). -/
theorem signalParityFlag_error {idx : Nat} (f : TimeFields) (h1 : idx ≠ 1) (h2 : idx ≠ 2) :
    signalParityFlag f idx = .error (.unexpectedSlot 8 idx) := by
  rw [signalParityFlag, if_neg h1, if_neg h2]

/-- Settles O20. At index 1 and 2 the multiplexer answers a field's parity, which the ports keep from raising. -/
theorem parityFlagTransmitsParity : Obligations.ParityFlagTransmitsParity :=
  ⟨slotSends_of_ok (.parityFlag 1) rfl rfl Inputs.signalParity_hour,
    slotSends_of_ok (.parityFlag 2) rfl rfl Inputs.signalParity_minute,
    operationSends_of_ok (kind := 8) (idx := 1) rfl Inputs.signalParity_hour,
    operationSends_of_ok (kind := 8) (idx := 2) rfl Inputs.signalParity_minute,
    fun _ h1 h2 => operationRaises_of_error rfl
      fun f => signalParityFlag_error f (BitVec.toNat_ne.mp h1) (BitVec.toNat_ne.mp h2),
    fun f => ⟨(signalValue_pa1 f).trans ∘ signalParity_of_ge, (signalValue_pa2 f).trans ∘ signalParity_of_ge⟩,
    fun _ => hourBits_parity_even, fun _ => minuteBits_parity_even⟩

/-! ### The top level -/

/-- Settles O36. The top-level result is the multiplexer's answer to the resolver's slot, and it is a value. -/
theorem topLevelStepIsEncode : Obligations.TopLevelStepIsEncode := by
  intro s hs htop
  obtain ⟨v, hv⟩ := Inputs.result_ok_of_top_defaults htop
  have hdesc := Inputs.descriptor_of_top _ htop
  refine ⟨v, _, ?_, Inputs.encodeBlock_of_result htop hv, step_of_ok hs hv, ?_, reads_ofValue _ v, v.durMs_toNat⟩
  · rw [← hdesc, ← Inputs.result_eq, hv]
  · rw [← hdesc]
    exact mkDesc_eta _

/-- A raise of the multiplexer ends `encode` with that fault (R146). -/
theorem encodeBlock_of_error {sec : Second} {f : TimeFields} {e : Fault}
    (h : signalValue (slotForSecond sec).descriptor f = .error e) : encodeBlock sec f = .error e := by
  rw [encodeBlock_eq, h]

/-- Settles O37. A value leaves the mark clear; StopAnnounce and the parity of a number of 100 or more raise. -/
theorem topLevelNeverFaults : Obligations.TopLevelNeverFaults := by
  refine ⟨fun s hs htop => ?_, ⟨0xA1, ⟨0, 0, 1, 0, 0⟩, rfl⟩, fun _ => parity_of_ge,
    fun f => ⟨fun h => ?_, fun h => ?_⟩⟩
  · obtain ⟨v, hv⟩ := Inputs.result_ok_of_top_defaults htop
    exact ⟨_, step_of_ok hs hv, rfl, hs⟩
  · exact encodeBlock_of_error ((signalValue_pa1 f).trans (signalParity_of_ge h))
  · exact encodeBlock_of_error ((signalValue_pa2 f).trans (signalParity_of_ge h))

/-- A parity is never Marker (R131, R139). -/
theorem signalParity_ne_marker (n : Nat) : signalParity n ≠ .ok .marker := by
  rw [signalParity]
  cases parity n with
  | ok b => exact bitToSignal_ne_marker b
  | error f => nofun

/-- Marker is the answer to the variants Marker and Position alone (R149). -/
theorem signalOf_slot_eq_marker_iff (slot : FrameSlot) (f : TimeFields) :
    signalOf slot.kindCode slot.payload f = .ok .marker ↔ slot.kindCode ≤ 1 := by
  cases slot with
  | marker => exact iff_of_true rfl (Nat.zero_le 1)
  | position _ => exact iff_of_true rfl (Nat.le_refl 1)
  | hourDigit _ | minuteDigit _ | dayDigit _ | yearDigit _ | weekdayDigit _ =>
    exact iff_of_false (bitToSignal_ne_marker _) (by simp [FrameSlot.kindCode])
  | parityFlag idx =>
    refine iff_of_false ?_ (by simp [FrameSlot.kindCode])
    change signalParityFlag f idx.toNat ≠ _
    rw [signalParityFlag]
    split
    case isTrue => exact signalParity_ne_marker _
    split
    case isTrue => exact signalParity_ne_marker _
    case isFalse => nofun
  | leapSecondFlag _ | reserved _ | stopAnnounce _ | fixedZero =>
    exact iff_of_false nofun (by simp [FrameSlot.kindCode])

/-- Zero is the answer to LeapSecondFlag, Reserved and FixedZero, whatever the time fields (R150). -/
theorem signalOf_slot_eq_zero {slot : FrameSlot} (f : TimeFields) (h : slot.kindCode ∈ [7, 9, 11]) :
    signalOf slot.kindCode slot.payload f = .ok .zero := by
  simp only [List.mem_cons, List.not_mem_nil, or_false] at h
  obtain h | h | h := h <;> rw [h] <;> rfl

/-- The seconds that resolve to Marker or Position (R101, R149). -/
theorem slotOf_kindCode_le_one_iff : ∀ sec : Second, (slotOf sec.toNat).kindCode ≤ 1 ↔
    sec.toNat ∈ [0, 9, 19, 29, 39, 49, 59] := by decide

/-- The seconds that resolve to LeapSecondFlag, Reserved or FixedZero (R101, R103, R150). -/
theorem slotOf_kindCode_mem_zeros : ∀ sec : Second,
    sec.toNat ∈ [4, 10, 11, 14, 20, 21, 24, 34, 35, 38, 40, 53, 54, 55, 56, 57, 58, 60, 61, 62, 63] →
      (slotOf sec.toNat).kindCode ∈ [7, 9, 11] := by decide

/-- A top-level step sends the multiplexer's answer to the slot of its second (R146, R147). -/
theorem step_reads_of_top {s : State} (hs : s.runFault = none) (htop : s.nextInputs.inject = none) :
    ∃ v t, signalOf (slotOf s.nextInputs.sec.toNat).kindCode (slotOf s.nextInputs.sec.toNat).payload
      s.nextInputs.fields = .ok v ∧ step s = .next t ∧ reads t.out v := by
  obtain ⟨v, hv⟩ := Inputs.result_ok_of_top_defaults htop
  exact ⟨v, _, (Inputs.result_of_top (by decide) htop).symm.trans hv, step_of_ok hs hv, reads_ofValue _ v⟩

/-- Settles O38. The value is Marker exactly when the second's slot is Marker or Position. -/
theorem markerExactlyAtMarkerSeconds : Obligations.MarkerExactlyAtMarkerSeconds := by
  intro s hs htop
  obtain ⟨v, t, hv, hstep, -, hread⟩ := step_reads_of_top hs htop
  rw [← slotOf_kindCode_le_one_iff, ← signalOf_slot_eq_marker_iff _ s.nextInputs.fields, hv]
  refine ⟨t, hstep, ?_⟩
  cases v with
  | zero | one | marker => obtain ⟨hvalue, -⟩ := hread; simp [hvalue]

/-- Settles O39. At these seconds the multiplexer's answer does not depend on the fields. -/
theorem constantSlotsIgnoreTimeFields : Obligations.ConstantSlotsIgnoreTimeFields := by
  intro s hs htop
  obtain ⟨v, t, hv, hstep, hfault, hread⟩ := step_reads_of_top hs htop
  refine ⟨t, hstep, fun hsec => ?_, fun hsec => ?_⟩
  · have hmarker := (signalOf_slot_eq_marker_iff _ s.nextInputs.fields).mpr ((slotOf_kindCode_le_one_iff _).mpr hsec)
    obtain rfl : v = .marker := Except.ok.inj (hv.symm.trans hmarker)
    obtain ⟨hvalue, hdur⟩ := hread
    exact ⟨hvalue, hdur, hfault⟩
  · have hzero := signalOf_slot_eq_zero s.nextInputs.fields (slotOf_kindCode_mem_zeros _ hsec)
    obtain rfl : v = .zero := Except.ok.inj (hv.symm.trans hzero)
    obtain ⟨hvalue, hdur⟩ := hread
    exact ⟨hvalue, hdur, hfault⟩

end Sys2Proof.Machine
end

section
/-! PROOFS. Scope: faults and the environment's clock (60_exceptions.md). A retry comes from what an evaluation's outcome
depends on, the index test from the multiplexer's ParityFlag arm, the clock's answer from its one branch. -/

namespace Sys2Proof.Machine

open Sys2Proof.Stated

/-! ### Faults -/

/-- An evaluation drives outputs only: the input ports keep their vector (R12, R45). -/
theorem inp_of_exec {i : Instr} {s t : State} (h : exec i s = .next t) : t.inp = s.inp := by
  obtain ⟨v, rfl⟩ | ⟨f, rfl⟩ := exec_cases h
  · exact s.emit_inp i.descriptor v
  · exact s.raise_inp f

/-- Settles O45. A retry sees the vector of the evaluation that faulted, and the code depends on nothing else (R11). -/
theorem retryGivesSameFault : Obligations.RetryGivesSameFault := by
  intro i s t h _
  obtain ⟨sameInputs, -⟩ := outcomeDependsOnInputsOnly
  obtain ⟨u, t', hu, ht', hfault, -⟩ := sameInputs i t s (inp_of_exec h)
  obtain rfl : t = t' := Host.Outcome.next.inj (h.symm.trans ht')
  exact ⟨u, hu, hfault⟩

/-- Settles O44. The ParityFlag arm raises before it looks at a field. -/
theorem parityIndexIsTestedFirst : Obligations.ParityIndexIsTestedFirst :=
  fun f idx h1 h2 => (signalValue_mkDesc 8 idx f).trans
    (signalParityFlag_error f (BitVec.toNat_ne.mp h1) (BitVec.toNat_ne.mp h2))

/-! ### The clock -/

/-- Below one second the wait is the rest of the second (R185). -/
theorem nextSecond_of_lt {unit ticks : Nat} (whole : Nat) (h : ticks < unit) :
    nextSecond unit { whole := whole, ticks := ticks } = some (unit - ticks, { whole := whole + 1, ticks := 0 }) :=
  if_pos h

/-- Settles O50. The wait is the unit less the elapsed ticks, of which there are fewer than the unit. -/
theorem nextSecondAlwaysAdvances : Obligations.NextSecondAlwaysAdvances := by
  intro unit whole ticks h
  refine ⟨unit - ticks, nextSecond_of_lt whole h, Nat.sub_add_cancel h.le, Nat.sub_pos_of_lt h,
    Nat.sub_le unit ticks, fun hzero => ?_, fun hpos => ?_⟩
  · rw [hzero, Nat.sub_zero]
  · exact Nat.sub_lt_self hpos h.le

end Sys2Proof.Machine
end

section
/-! PROOFS. Scope: the state after power-on (70_reset_and_hazards.md): what `encode` answers at second 0, and that the
reset values are that answer. -/

namespace Sys2Proof.Machine

/-- At second 0 `encode` answers the Marker of 200 ms whatever the time fields (R149, R212). -/
theorem encodeBlock_second_zero (f : TimeFields) : encodeBlock 0 f = .ok (.marker, .marker, 200) := by
  have hmarker : signalValue (slotForSecond 0).descriptor f = .ok .marker :=
    (signalOf_slot_eq_marker_iff .marker f).mpr (Nat.zero_le 1)
  rw [encodeBlock_eq, hmarker]
  rfl

/-- Settles O1. The zero second selects Marker, so `encode` answers `encodeBlock_second_zero`, which the output ports
show; the other parts are the reset values the model chose (log 1). -/
theorem resetHoldsEncodeOfZeroInputs : Obligations.ResetHoldsEncodeOfZeroInputs :=
  ⟨rfl, encodeBlock_second_zero State.reset.inp.fields, rfl, rfl, rfl, rfl⟩

end Sys2Proof.Machine
end
